-- ==== Sys2Proof/Word.lean ====
section
/-! DEFINITION. The byte of the office port and the 16-bit word that the host reads and writes as a mask. -/

namespace Sys2Proof

/-- One byte on the office port (R162). -/
abbrev Byte := BitVec 8

/-- A set of classes, groups or flag kinds as the host sees it: bit k is set for member k (R168). -/
abbrev Mask := BitVec 16

end Sys2Proof
end

