-- ==== Sys2Proof/Config.lean ====
section
/-! DEFINITION. What the maker fixes: sizes, ranges and times the spec states as numbers, and the one free value. -/

namespace Sys2Proof.Config

/-- The revision number IDENTIFY returns: "a constant fixed by the maker for each revision of the part" (R167).
FREE VALUE: no body, so nothing can be proved of it (assumption 12). -/
opaque revision : Byte

/-- The part code IDENTIFY returns (R167). -/
def partCode : Nat := 412

/-- The largest site minute (R1). -/
def maxMinute : Nat := 16777215

/-- Most driver records (R5). -/
def maxDrivers : Nat := 96

/-- Cards on one page of LIST_DRIVERS (R15). -/
def cardsPerPage : Nat := 24

/-- Most unit records (R34). -/
def maxTankers : Nat := 32

/-- Most consignments (R64). -/
def maxConsignments : Nat := 32

/-- The largest card number and the largest consignment number; the value above it is reserved (keys and ranges, 00). -/
def maxKey : Nat := 4294967294

/-- The largest unit number (keys and ranges, 00). -/
def maxTanker : Nat := 16777215

/-- Most waiting commands of one bay (R154). -/
def maxWaiting : Nat := 4

/-- The largest loaded volume and the largest meter reading (R66, R160). -/
def maxReading : Nat := 65535

/-- The largest permit number (R100). -/
def maxPermit : Nat := 65535

/-- The cap of duty_eff, on_site and L in minutes (R23, R25). -/
def dayMinutes : Nat := 1440

/-- The frame timer, in milliseconds (R163). -/
def frameTimeout : Nat := 50

/-- The grant timeout, in milliseconds, for a grant and for a hold (R153). -/
def grantTimeout : Nat := 20

/-- The acknowledgement timeout, in milliseconds (R158). -/
def ackTimeout : Nat := 500

/-- The largest payload length of a frame (R162). -/
def maxPayload : Nat := 240

/-- The mark of a command frame (R162). -/
def commandMark : Byte := 0xC6

/-- The mark of a response frame (R162). -/
def responseMark : Byte := 0xC7

end Sys2Proof.Config
end

