-- ==== Sys2Proof/Syntax.lean ====
section
/-! DEFINITION. The commands and events of the block: one constructor for each row of spec/opcode_table.json.
The table lists no operand fields, so the operands are those the rules give each row (assumption 22): for a host
command the fields of its payload (R168), numbers as the bytes spell them and not yet judged; for a bay message its
fields (R160); for an input change the new reading. -/

namespace Sys2Proof

/-- The twelve loading positions (terms, 00). -/
inductive Bay where
  | b1 | b2 | b3 | b4 | b5 | b6 | b7 | b8 | b9 | b10 | b11 | b12
  deriving DecidableEq, Repr

/-- The place of a bay in a table of twelve, from 0. -/
def Bay.idx : Bay → Fin 12
  | .b1 => 0 | .b2 => 1 | .b3 => 2 | .b4 => 3 | .b5 => 4 | .b6 => 5
  | .b7 => 6 | .b8 => 7 | .b9 => 8 | .b10 => 9 | .b11 => 10 | .b12 => 11

/-- The bay number, 1 to 12. -/
def Bay.num (b : Bay) : Nat := b.idx.val + 1

/-- Every bay, in ascending bay number. -/
def Bay.all : List Bay := [.b1, .b2, .b3, .b4, .b5, .b6, .b7, .b8, .b9, .b10, .b11, .b12]

/-- The bay a number names; none outside 1 to 12. -/
def Bay.ofNat? (n : Nat) : Option Bay := Bay.all.find? (fun b => b.num == n)

/-- One value for each bay. -/
abbrev PerBay (α : Type) := Vector α 12

/-- The value of a bay. -/
def PerBay.look {α : Type} (t : PerBay α) (b : Bay) : α := t[b.idx]

/-- The table with one bay's value replaced. -/
def PerBay.put {α : Type} (t : PerBay α) (b : Bay) (x : α) : PerBay α := t.set b.idx x

/-- The two classes of bus request (R149). -/
inductive RequestClass where
  | urgent | routine
  deriving DecidableEq, Repr

/-- The CLAMP input (R130). -/
inductive Clamp where
  | opened | closed
  deriving DecidableEq, Repr

/-- The PROBE input (R131). -/
inductive Probe where
  | healthy | tripped
  deriving DecidableEq, Repr

/-- The flow indication of a progress report (R107). -/
inductive Flow where
  | stopped | flowing
  deriving DecidableEq, Repr

/-- The arm lock as an acknowledgement reports it (R157). -/
inductive LockState where
  | disengaged | engaged | unknown
  deriving DecidableEq, Repr

/-- The levels of the hardwired inputs at a start (R122, R121). -/
structure InputLevels where
  clamp : PerBay Clamp
  probe : PerBay Probe
  /-- true while the ESD input is asserted -/
  esd : Bool
  deriving DecidableEq, Repr

/-- The four accounts of a driver, in minutes (R7). -/
structure Accounts where
  driveDay : Nat
  driveCont : Nat
  dutyShift : Nat
  drivePeriod : Nat
  deriving DecidableEq, Repr

/-- A round plan, in minutes (R32, R69). -/
structure RoundPlan where
  drive : Nat
  duty : Nat
  longestLeg : Nat
  deriving DecidableEq, Repr

/-- An optional field as a payload spells it: a presence byte and the field's value (R168). -/
structure OptField where
  presence : Nat
  value : Nat
  deriving DecidableEq, Repr

/-- The payload of SET_LIMITS (R20, R168). -/
structure LimitsArgs where
  dDay : Nat
  cMax : Nat
  bMin : Nat
  sDuty : Nat
  wDrive : Nat
  margin : Nat
  handling : Nat
  fNom : Nat
  tolerance : Nat
  /-- the break flag's byte -/
  breakFlag : Nat
  deriving DecidableEq, Repr

/-- The eight settings in the payload of SET_BAY (R135, R168). -/
structure BayArgs where
  rank : Nat
  flow : Nat
  allowance : Nat
  slowdown : Nat
  groups : Mask
  initialTimeout : Nat
  progressTimeout : Nat
  /-- the enabled byte -/
  enabled : Nat
  deriving DecidableEq, Repr

/-- The payload of SET_PRODUCT after the code (R53, R168). -/
structure ProductArgs where
  /-- the defined byte -/
  defined : Nat
  un : Nat
  hazard : Nat
  subsidiary : Nat
  /-- the packing group's code (R169) -/
  packing : Nat
  group : Nat
  density : Nat
  deriving DecidableEq, Repr

/-- The payload of ADMIT_DRIVER after the card (R7, R168). -/
structure DriverArgs where
  classes : Mask
  /-- the tank endorsement byte -/
  tank : Nat
  licenceUntil : Nat
  endorsementUntil : Nat
  accounts : Accounts
  deriving DecidableEq, Repr

/-- One compartment in the payload of ADMIT_UNIT: capacity, and last product with 0 for absent (R36, R168). -/
structure CompartmentArgs where
  capacity : Nat
  lastProduct : Nat
  deriving DecidableEq, Repr

/-- One line in the payload of OPEN_CONSIGNMENT (R69, R168). -/
structure LineArgs where
  compartment : Nat
  product : Nat
  ordered : Nat
  deriving DecidableEq, Repr

/-- The payload of OPEN_CONSIGNMENT (R69, R168). -/
structure OpenArgs where
  number : Nat
  tanker : Nat
  card : Nat
  plan : RoundPlan
  destination : OptField
  /-- the line count the payload declares -/
  lineCount : Nat
  lines : List LineArgs
  deriving DecidableEq, Repr

/-- One constructor for each row of the table; LAWS.json gives each row's mnemonic. -/
inductive Instr where
  -- starts (R176, R167)
  | powerOn (inputs : InputLevels)
  | identify
  | resetSoft
  | resetHard
  | softReset
  | hardReset
  -- site clock (R2 to R4)
  | setClock (minute : Nat)
  | getClock
  | clockMinuteTick
  -- settings (R20, R21, R53, R54, R58, R59, R135, R136, R177, R178)
  | setLimits (args : LimitsArgs)
  | getLimits
  | setBay (bay : Nat) (args : BayArgs)
  | getBay (bay : Nat)
  | setProduct (code : Nat) (args : ProductArgs)
  | getProduct (code : Nat)
  | setSegregation (group : Nat) (row : List Nat)
  | getSegregation (group : Nat)
  | saveSettings
  | eraseComplete
  | writeComplete (checksumMatches : Bool)
  | verifyComplete (agrees : Bool)
  -- drivers and hours (R7 to R15, R32)
  | admitDriver (card : Nat) (args : DriverArgs)
  | updateSummary (card : Nat) (accounts : Accounts)
  | holdDriver (card : Nat)
  | freeDriver (card : Nat)
  | retireDriver (card : Nat)
  | readDriver (card : Nat)
  | listDrivers (page : Nat)
  | project (card : Nat) (plan : RoundPlan) (consignment : OptField)
  -- units (R36, R43, R47, R49)
  | admitUnit (number : Nat) (count : Nat) (maxPayload : Nat) (compartments : List CompartmentArgs)
  | markClean (number : Nat) (compartment : Nat)
  | retireUnit (number : Nat)
  | readUnit (number : Nat)
  -- consignments (R69 to R81, R139)
  | openConsignment (args : OpenArgs)
  | amendLine (number : Nat) (compartment : Nat) (ordered : Nat)
  | cancelLine (number : Nat) (compartment : Nat)
  | closeShort (number : Nat) (compartment : Nat)
  | voidConsignment (number : Nat)
  | release (number : Nat)
  | readConsignment (number : Nat)
  -- bays from the host (R119, R133, R137, R138)
  | bayStatus (bay : Nat)
  | bayLamp (bay : Nat) (call : Nat)
  | stopBay (bay : Nat)
  | bayReset (bay : Nat)
  -- attention (R173 to R175)
  | readAttention
  | ackAttention (entry : Nat) (mask : Mask)
  | setAttentionEnable (bayKinds : Mask) (gantryKinds : Mask)
  -- office port (R163 to R165)
  | unknownCommand (code : Byte) (payload : List Byte) (sum : BitVec 16)
  | frameTimeout
  | framingError
  | responseSent
  -- gantry bus (R149 to R158)
  | requestRaised (bay : Bay) (cls : RequestClass)
  | take (bay : Bay)
  | grantExpiry
  | holdExpiry
  | messageDiscarded
  | transmissionEnd
  | stationLost (bay : Bay)
  -- messages to the bay slots (R123 to R129)
  | hello (bay : Bay)
  | vehiclePresent (bay : Bay) (tag : Nat)
  | vehicleAbsent (bay : Bay)
  | card (bay : Bay) (number : Nat)
  | drain (bay : Bay) (compartment : Nat)
  | call (bay : Bay)
  -- the engine (R84, R89, R90)
  | loadRequest (bay : Bay) (compartment : Nat)
  | evaluationCompletion
  | droppedEvaluationCompletion
  -- filling supervision (R107, R113, R114, R118)
  | progress (bay : Bay) (permit : Nat) (reading : Nat) (flow : Flow)
  | finish (bay : Bay) (permit : Nat) (reading : Nat)
  | progressTimeout (bay : Bay)
  | stop (bay : Bay)
  | meterFault (bay : Bay)
  -- acknowledgement (R157)
  | ack (bay : Bay) (number : Nat) (lock : LockState)
  -- hardwired inputs (R120, R121, R130, R131)
  | clampChange (bay : Bay) (reading : Clamp)
  | probeChange (bay : Bay) (reading : Probe)
  | esdAssertion
  | esdRelease
  -- bytes at the office port (R163)
  | frameMark
  | length (code : Byte) (len : Byte)
  deriving DecidableEq, Repr

end Sys2Proof
end

