-- ==== Sys2Proof/WellFormed.lean ====
section
/-! DEFINITION. Which terms of Instr a partner of the block can send: each number fits the bytes its payload field has
(R168) or the range its bus message field has (R160), and counted lists match their counts. A value the block itself
judges (BAD_VALUE and the like) is well formed. -/

namespace Sys2Proof

/-- n fits in w bytes. -/
def fits (w n : Nat) : Bool := n < 256 ^ w

def Accounts.wellFormed (a : Accounts) : Bool :=
  fits 2 a.driveDay && fits 2 a.driveCont && fits 2 a.dutyShift && fits 2 a.drivePeriod

def RoundPlan.wellFormed (p : RoundPlan) : Bool :=
  fits 2 p.drive && fits 2 p.duty && fits 2 p.longestLeg

def OptField.wellFormed (w : Nat) (f : OptField) : Bool := fits 1 f.presence && fits w f.value

def LimitsArgs.wellFormed (a : LimitsArgs) : Bool :=
  fits 2 a.dDay && fits 2 a.cMax && fits 2 a.bMin && fits 2 a.sDuty && fits 2 a.wDrive && fits 2 a.margin
    && fits 2 a.handling && fits 2 a.fNom && fits 2 a.tolerance && fits 1 a.breakFlag

def BayArgs.wellFormed (a : BayArgs) : Bool :=
  fits 1 a.rank && fits 2 a.flow && fits 2 a.allowance && fits 2 a.slowdown && fits 2 a.initialTimeout
    && fits 1 a.progressTimeout && fits 1 a.enabled

def ProductArgs.wellFormed (a : ProductArgs) : Bool :=
  fits 1 a.defined && fits 2 a.un && fits 1 a.hazard && fits 1 a.subsidiary && fits 1 a.packing
    && fits 1 a.group && fits 2 a.density

def DriverArgs.wellFormed (a : DriverArgs) : Bool :=
  fits 1 a.tank && fits 2 a.licenceUntil && fits 2 a.endorsementUntil && a.accounts.wellFormed

def CompartmentArgs.wellFormed (a : CompartmentArgs) : Bool := fits 2 a.capacity && fits 1 a.lastProduct

def LineArgs.wellFormed (a : LineArgs) : Bool := fits 1 a.compartment && fits 1 a.product && fits 2 a.ordered

/-- The line count is the list's, and the whole payload fits a frame (R162, R168). -/
def OpenArgs.wellFormed (a : OpenArgs) : Bool :=
  fits 4 a.number && fits 3 a.tanker && fits 4 a.card && a.plan.wellFormed && a.destination.wellFormed 2
    && a.lineCount == a.lines.length && 21 + 4 * a.lineCount ≤ Config.maxPayload && a.lines.all LineArgs.wellFormed

/-- A command that a partner of the block can send. -/
def Instr.wellFormed : Instr → Bool
  | .powerOn _ | .identify | .resetSoft | .resetHard | .softReset | .hardReset => true
  | .setClock minute => fits 3 minute
  | .getClock | .clockMinuteTick => true
  | .setLimits args => args.wellFormed
  | .getLimits => true
  | .setBay bay args => fits 1 bay && args.wellFormed
  | .getBay bay => fits 1 bay
  | .setProduct code args => fits 1 code && args.wellFormed
  | .getProduct code => fits 1 code
  | .setSegregation group row => fits 1 group && row.length == 16 && row.all (fits 1)
  | .getSegregation group => fits 1 group
  | .saveSettings | .eraseComplete | .writeComplete _ | .verifyComplete _ => true
  | .admitDriver k args => fits 4 k && args.wellFormed
  | .updateSummary k accounts => fits 4 k && accounts.wellFormed
  | .holdDriver k | .freeDriver k | .retireDriver k | .readDriver k => fits 4 k
  | .listDrivers page => fits 1 page
  | .project k plan consignment => fits 4 k && plan.wellFormed && consignment.wellFormed 4
  | .admitUnit number count maxPayload compartments =>
      fits 3 number && fits 2 maxPayload && count == compartments.length && 6 + 3 * count ≤ Config.maxPayload
        && compartments.all CompartmentArgs.wellFormed
  | .markClean number compartment => fits 3 number && fits 1 compartment
  | .retireUnit number | .readUnit number => fits 3 number
  | .openConsignment args => args.wellFormed
  | .amendLine number compartment ordered => fits 4 number && fits 1 compartment && fits 2 ordered
  | .cancelLine number compartment | .closeShort number compartment => fits 4 number && fits 1 compartment
  | .voidConsignment number | .release number | .readConsignment number => fits 4 number
  | .bayStatus bay | .stopBay bay | .bayReset bay => fits 1 bay
  | .bayLamp bay v => fits 1 bay && fits 1 v
  | .readAttention => true
  | .ackAttention entry _ => fits 1 entry
  | .setAttentionEnable _ _ => true
  | .unknownCommand _ payload _ => payload.length ≤ Config.maxPayload
  | .frameTimeout | .framingError | .responseSent => true
  | .requestRaised _ _ | .take _ | .grantExpiry | .holdExpiry | .messageDiscarded | .transmissionEnd
  | .stationLost _ | .hello _ => true
  | .vehiclePresent _ tag => fits 3 tag
  | .vehicleAbsent _ => true
  | .card _ number => fits 4 number
  | .drain _ compartment => compartment ≤ 8
  | .call _ => true
  | .loadRequest _ compartment => compartment ≤ 8
  | .evaluationCompletion | .droppedEvaluationCompletion => true
  | .progress _ permit reading _ => fits 2 permit && fits 2 reading
  | .finish _ permit reading => fits 2 permit && fits 2 reading
  | .progressTimeout _ | .stop _ | .meterFault _ => true
  | .ack _ number _ => fits 1 number
  | .clampChange _ _ | .probeChange _ _ | .esdAssertion | .esdRelease | .frameMark | .length _ _ => true

end Sys2Proof
end

