-- ==== Sys2Proof/Decode.lean ====
section
/-! DEFINITION. The frames of the office port: the code of each host command (R166), the check of a frame's code and
length (R164 checks 2 and 3), the reading of a payload's fields (R168), and the payload each host command travels in.
The opcode table gives no bits for any row, so decodeTableWord answers none. -/

namespace Sys2Proof

/-- The w low bytes of n, low byte first (R162). -/
def leBytes : Nat → Nat → List Byte
  | 0, _ => []
  | w + 1, n => BitVec.ofNat 8 n :: leBytes w (n / 256)

/-- The number a byte string spells, low byte first (R162). -/
def leNat : List Byte → Nat
  | [] => 0
  | b :: bs => b.toNat + 256 * leNat bs

/-- The field of w bytes at an offset of a payload. -/
def field (payload : List Byte) (offset w : Nat) : Nat := leNat ((payload.drop offset).take w)

/-- The sum of a frame, modulo 65,536 (R162). -/
def byteSum (bs : List Byte) : BitVec 16 := BitVec.ofNat 16 (bs.foldl (fun n b => n + b.toNat) 0)

/-- The code of each host command (R166); none for a row that is not one. Both RESET rows share code 0x02. -/
def Instr.hostCode : Instr → Option Byte
  | .identify => some 0x01
  | .resetSoft | .resetHard => some 0x02
  | .setClock _ => some 0x10
  | .getClock => some 0x11
  | .setLimits _ => some 0x18
  | .getLimits => some 0x19
  | .setBay _ _ => some 0x1A
  | .getBay _ => some 0x1B
  | .setProduct _ _ => some 0x20
  | .getProduct _ => some 0x21
  | .setSegregation _ _ => some 0x22
  | .getSegregation _ => some 0x23
  | .saveSettings => some 0x28
  | .admitDriver _ _ => some 0x30
  | .updateSummary _ _ => some 0x31
  | .holdDriver _ => some 0x32
  | .freeDriver _ => some 0x33
  | .retireDriver _ => some 0x34
  | .readDriver _ => some 0x35
  | .listDrivers _ => some 0x36
  | .project _ _ _ => some 0x37
  | .admitUnit _ _ _ _ => some 0x40
  | .markClean _ _ => some 0x41
  | .retireUnit _ => some 0x42
  | .readUnit _ => some 0x43
  | .openConsignment _ => some 0x50
  | .amendLine _ _ _ => some 0x51
  | .cancelLine _ _ => some 0x52
  | .closeShort _ _ => some 0x53
  | .voidConsignment _ => some 0x54
  | .release _ => some 0x55
  | .readConsignment _ => some 0x56
  | .bayStatus _ => some 0x60
  | .bayLamp _ _ => some 0x61
  | .stopBay _ => some 0x62
  | .bayReset _ => some 0x63
  | .readAttention => some 0x70
  | .ackAttention _ _ => some 0x71
  | .setAttentionEnable _ _ => some 0x72
  | .powerOn _ | .softReset | .hardReset | .clockMinuteTick | .eraseComplete | .writeComplete _ | .verifyComplete _
  | .unknownCommand _ _ _ | .frameTimeout | .framingError | .responseSent | .requestRaised _ _ | .take _
  | .grantExpiry | .holdExpiry | .messageDiscarded | .transmissionEnd | .stationLost _ | .hello _
  | .vehiclePresent _ _ | .vehicleAbsent _ | .card _ _ | .drain _ _ | .call _ | .loadRequest _ _
  | .evaluationCompletion | .droppedEvaluationCompletion | .progress _ _ _ _ | .finish _ _ _ | .progressTimeout _
  | .stop _ | .meterFault _ | .ack _ _ _ | .clampChange _ _ | .probeChange _ _ | .esdAssertion | .esdRelease
  | .frameMark | .length _ _ => none

/-- What the port makes of the code and payload of a frame whose sum matches (R164). -/
inductive FrameVerdict where
  /-- check 2 fails -/
  | unknownCode
  /-- check 3 fails -/
  | badLength
  /-- RESET with a kind other than 0 and 1, which its owner refuses BAD_VALUE (R167) -/
  | badResetKind
  /-- the frame is taken as this host command -/
  | command (i : Instr)
  deriving DecidableEq, Repr

/-- A fixed-size payload: taken as the command it spells when its length is exactly n (R168). -/
def sized (payload : List Byte) (n : Nat) (i : Instr) : FrameVerdict :=
  if payload.length = n then .command i else .badLength

/-- The four accounts at an offset (R168). -/
def readAccounts (p : List Byte) (o : Nat) : Accounts :=
  ⟨field p o 2, field p (o + 2) 2, field p (o + 4) 2, field p (o + 6) 2⟩

/-- The round plan at an offset (R168). -/
def readPlan (p : List Byte) (o : Nat) : RoundPlan := ⟨field p o 2, field p (o + 2) 2, field p (o + 4) 2⟩

/-- A mask of two bytes at an offset (R168). -/
def readMask (p : List Byte) (o : Nat) : Mask := BitVec.ofNat 16 (field p o 2)

/-- The compartments of ADMIT_UNIT, three bytes each (R168). -/
def readCompartments : List Byte → List CompartmentArgs
  | c0 :: c1 :: l :: rest => ⟨leNat [c0, c1], l.toNat⟩ :: readCompartments rest
  | _ => []

/-- The lines of OPEN_CONSIGNMENT, four bytes each (R168). -/
def readLines : List Byte → List LineArgs
  | c :: p :: o0 :: o1 :: rest => ⟨c.toNat, p.toNat, leNat [o0, o1]⟩ :: readLines rest
  | _ => []

/-- RESET: one byte, the kind (R167). -/
def decodeReset (p : List Byte) : FrameVerdict :=
  if p.length ≠ 1 then .badLength
  else if field p 0 1 = 0 then .command .resetSoft
  else if field p 0 1 = 1 then .command .resetHard
  else .badResetKind

/-- ADMIT_UNIT: 6 + 3 × n bytes, counted by n; a payload too short to hold n does not match (R168). -/
def decodeAdmitUnit (p : List Byte) : FrameVerdict :=
  if p.length < 4 ∨ p.length ≠ 6 + 3 * field p 3 1 then .badLength
  else .command (.admitUnit (field p 0 3) (field p 3 1) (field p 4 2) (readCompartments (p.drop 6)))

/-- OPEN_CONSIGNMENT: 21 + 4 × line count bytes, counted by the line count (R168). -/
def decodeOpen (p : List Byte) : FrameVerdict :=
  if p.length < 21 ∨ p.length ≠ 21 + 4 * field p 20 1 then .badLength
  else .command (.openConsignment
    { number := field p 0 4, tanker := field p 4 3, card := field p 7 4, plan := readPlan p 11,
      destination := ⟨field p 17 1, field p 18 2⟩, lineCount := field p 20 1, lines := readLines (p.drop 21) })

/-- Checks 2 and 3 of R164 on a frame's code and payload, and the command a frame that passes them is. -/
def decodeFrame (code : Byte) (p : List Byte) : FrameVerdict :=
  match code.toNat with
  | 0x01 => sized p 0 .identify
  | 0x02 => decodeReset p
  | 0x10 => sized p 3 (.setClock (field p 0 3))
  | 0x11 => sized p 0 .getClock
  | 0x18 => sized p 19 (.setLimits ⟨field p 0 2, field p 2 2, field p 4 2, field p 6 2, field p 8 2, field p 10 2,
      field p 12 2, field p 14 2, field p 16 2, field p 18 1⟩)
  | 0x19 => sized p 0 .getLimits
  | 0x1A => sized p 14 (.setBay (field p 0 1) ⟨field p 1 1, field p 2 2, field p 4 2, field p 6 2, readMask p 8,
      field p 10 2, field p 12 1, field p 13 1⟩)
  | 0x1B => sized p 1 (.getBay (field p 0 1))
  | 0x20 => sized p 10 (.setProduct (field p 0 1) ⟨field p 1 1, field p 2 2, field p 4 1, field p 5 1, field p 6 1,
      field p 7 1, field p 8 2⟩)
  | 0x21 => sized p 1 (.getProduct (field p 0 1))
  | 0x22 => sized p 17 (.setSegregation (field p 0 1) ((p.drop 1).map (·.toNat)))
  | 0x23 => sized p 1 (.getSegregation (field p 0 1))
  | 0x28 => sized p 0 .saveSettings
  | 0x30 => sized p 19 (.admitDriver (field p 0 4) ⟨readMask p 4, field p 6 1, field p 7 2, field p 9 2, readAccounts p 11⟩)
  | 0x31 => sized p 12 (.updateSummary (field p 0 4) (readAccounts p 4))
  | 0x32 => sized p 4 (.holdDriver (field p 0 4))
  | 0x33 => sized p 4 (.freeDriver (field p 0 4))
  | 0x34 => sized p 4 (.retireDriver (field p 0 4))
  | 0x35 => sized p 4 (.readDriver (field p 0 4))
  | 0x36 => sized p 1 (.listDrivers (field p 0 1))
  | 0x37 => sized p 15 (.project (field p 0 4) (readPlan p 4) ⟨field p 10 1, field p 11 4⟩)
  | 0x40 => decodeAdmitUnit p
  | 0x41 => sized p 4 (.markClean (field p 0 3) (field p 3 1))
  | 0x42 => sized p 3 (.retireUnit (field p 0 3))
  | 0x43 => sized p 3 (.readUnit (field p 0 3))
  | 0x50 => decodeOpen p
  | 0x51 => sized p 7 (.amendLine (field p 0 4) (field p 4 1) (field p 5 2))
  | 0x52 => sized p 5 (.cancelLine (field p 0 4) (field p 4 1))
  | 0x53 => sized p 5 (.closeShort (field p 0 4) (field p 4 1))
  | 0x54 => sized p 4 (.voidConsignment (field p 0 4))
  | 0x55 => sized p 4 (.release (field p 0 4))
  | 0x56 => sized p 4 (.readConsignment (field p 0 4))
  | 0x60 => sized p 1 (.bayStatus (field p 0 1))
  | 0x61 => sized p 2 (.bayLamp (field p 0 1) (field p 1 1))
  | 0x62 => sized p 1 (.stopBay (field p 0 1))
  | 0x63 => sized p 1 (.bayReset (field p 0 1))
  | 0x70 => sized p 0 .readAttention
  | 0x71 => sized p 3 (.ackAttention (field p 0 1) (readMask p 1))
  | 0x72 => sized p 4 (.setAttentionEnable (readMask p 0) (readMask p 2))
  | _ => .unknownCode

/-- The bytes of the four accounts (R168). -/
def accountBytes (a : Accounts) : List Byte :=
  leBytes 2 a.driveDay ++ leBytes 2 a.driveCont ++ leBytes 2 a.dutyShift ++ leBytes 2 a.drivePeriod

/-- The bytes of a round plan (R168). -/
def planBytes (p : RoundPlan) : List Byte := leBytes 2 p.drive ++ leBytes 2 p.duty ++ leBytes 2 p.longestLeg

/-- The bytes of a mask (R168). -/
def maskBytes (m : Mask) : List Byte := leBytes 2 m.toNat

/-- The command payload a host command travels in (R168); none for a row that is not a host command. -/
def Instr.payload : Instr → Option (List Byte)
  | .identify | .getClock | .getLimits | .saveSettings | .readAttention => some []
  | .resetSoft => some [0]
  | .resetHard => some [1]
  | .setClock minute => some (leBytes 3 minute)
  | .setLimits a => some (leBytes 2 a.dDay ++ leBytes 2 a.cMax ++ leBytes 2 a.bMin ++ leBytes 2 a.sDuty
      ++ leBytes 2 a.wDrive ++ leBytes 2 a.margin ++ leBytes 2 a.handling ++ leBytes 2 a.fNom ++ leBytes 2 a.tolerance
      ++ leBytes 1 a.breakFlag)
  | .setBay bay a => some (leBytes 1 bay ++ leBytes 1 a.rank ++ leBytes 2 a.flow ++ leBytes 2 a.allowance
      ++ leBytes 2 a.slowdown ++ maskBytes a.groups ++ leBytes 2 a.initialTimeout ++ leBytes 1 a.progressTimeout
      ++ leBytes 1 a.enabled)
  | .setProduct code a => some (leBytes 1 code ++ leBytes 1 a.defined ++ leBytes 2 a.un ++ leBytes 1 a.hazard
      ++ leBytes 1 a.subsidiary ++ leBytes 1 a.packing ++ leBytes 1 a.group ++ leBytes 2 a.density)
  | .setSegregation group row => some (leBytes 1 group ++ row.map (BitVec.ofNat 8))
  | .getBay n | .getProduct n | .getSegregation n | .listDrivers n | .bayStatus n | .stopBay n | .bayReset n =>
      some (leBytes 1 n)
  | .admitDriver k a => some (leBytes 4 k ++ maskBytes a.classes ++ leBytes 1 a.tank ++ leBytes 2 a.licenceUntil
      ++ leBytes 2 a.endorsementUntil ++ accountBytes a.accounts)
  | .updateSummary k a => some (leBytes 4 k ++ accountBytes a)
  | .holdDriver n | .freeDriver n | .retireDriver n | .readDriver n | .voidConsignment n | .release n
  | .readConsignment n => some (leBytes 4 n)
  | .project k plan c => some (leBytes 4 k ++ planBytes plan ++ leBytes 1 c.presence ++ leBytes 4 c.value)
  | .admitUnit number count maxPayload compartments => some (leBytes 3 number ++ leBytes 1 count ++ leBytes 2 maxPayload
      ++ compartments.flatMap (fun k => leBytes 2 k.capacity ++ leBytes 1 k.lastProduct))
  | .markClean number c => some (leBytes 3 number ++ leBytes 1 c)
  | .retireUnit n | .readUnit n => some (leBytes 3 n)
  | .openConsignment a => some (leBytes 4 a.number ++ leBytes 3 a.tanker ++ leBytes 4 a.card ++ planBytes a.plan
      ++ leBytes 1 a.destination.presence ++ leBytes 2 a.destination.value ++ leBytes 1 a.lineCount
      ++ a.lines.flatMap (fun l => leBytes 1 l.compartment ++ leBytes 1 l.product ++ leBytes 2 l.ordered))
  | .amendLine number c ordered => some (leBytes 4 number ++ leBytes 1 c ++ leBytes 2 ordered)
  | .cancelLine number c | .closeShort number c => some (leBytes 4 number ++ leBytes 1 c)
  | .bayLamp bay v => some (leBytes 1 bay ++ leBytes 1 v)
  | .ackAttention entry mask => some (leBytes 1 entry ++ maskBytes mask)
  | .setAttentionEnable bayKinds gantryKinds => some (maskBytes bayKinds ++ maskBytes gantryKinds)
  | .powerOn _ | .softReset | .hardReset | .clockMinuteTick | .eraseComplete | .writeComplete _ | .verifyComplete _
  | .unknownCommand _ _ _ | .frameTimeout | .framingError | .responseSent | .requestRaised _ _ | .take _
  | .grantExpiry | .holdExpiry | .messageDiscarded | .transmissionEnd | .stationLost _ | .hello _
  | .vehiclePresent _ _ | .vehicleAbsent _ | .card _ _ | .drain _ _ | .call _ | .loadRequest _ _
  | .evaluationCompletion | .droppedEvaluationCompletion | .progress _ _ _ _ | .finish _ _ _ | .progressTimeout _
  | .stop _ | .meterFault _ | .ack _ _ _ | .clampChange _ _ | .probeChange _ _ | .esdAssertion | .esdRelease
  | .frameMark | .length _ _ => none

/-- The whole command frame a code and payload travel in: mark, code, length, payload, sum (R162). -/
def commandFrame (code : Byte) (payload : List Byte) : List Byte :=
  let body := code :: BitVec.ofNat 8 payload.length :: payload
  Config.commandMark :: body ++ maskBytes (byteSum body)

/-- The command that a word spells by the table's bits: the table gives no row any bits, so no word spells one
(assumption 23). -/
def decodeTableWord (_nbits _w : Nat) : Option Instr := none

end Sys2Proof
end

