-- ==== Sys2Proof/Machine/State.lean ====
section
/-! DEFINITION. The state of the block, as plain data: every record, setting, queue, mode, flag and pin the spec gives it,
grouped as its blocks group them (00, "Block overview"), and the queue of waiting commands. Each field cites the rule that
names it. A "tanker" is the spec's unit (Unit is Lean's own word). -/

namespace Sys2Proof.Machine

/-! ## Site clock -/

/-- R1, R2. -/
structure Clock where
  /-- the site minute, 0 to 16,777,215 -/
  minute : Nat
  /-- the UNSET mark -/
  unset : Bool
  /-- the part of the minute already counted, in milliseconds (R2; assumption 2) -/
  counted : Nat
  deriving DecidableEq, Repr

/-! ## Driver register -/

/-- R5, R6. -/
inductive DriverState where
  | onSite | assigned | dispatched
  deriving DecidableEq, Repr

/-- The limit with the least slack (R28). -/
inductive Limit where
  | day | cont | duty | period
  deriving DecidableEq, Repr

/-- R29. -/
inductive Verdict where
  | clear | tight | short
  deriving DecidableEq, Repr

/-- R30. -/
inductive Expiry where
  | valid | expired
  deriving DecidableEq, Repr

/-- The projection record (R31). Slacks are signed (R26). -/
structure Projection where
  computedAt : Nat
  loading : Nat
  slackDuty : Int
  slackDay : Int
  slackPeriod : Int
  slackCont : Int
  minSlack : Int
  binding : Limit
  verdict : Verdict
  expiry : Expiry
  deriving DecidableEq, Repr

/-- The committed round (R146). -/
structure CommittedRound where
  drive : Nat
  duty : Nat
  stamp : Nat
  deriving DecidableEq, Repr

/-- The driver record (the table before R6). -/
structure Driver where
  card : Nat
  /-- bit k set for class k -/
  classes : Mask
  tank : Bool
  licenceUntil : Nat
  endorsementUntil : Nat
  accounts : Accounts
  summaryStamp : Nat
  arrival : Option Nat
  state : DriverState
  /-- the driver hold the host sets (R12) -/
  hold : Bool
  consignment : Option Nat
  committed : Option CommittedRound
  projection : Option Projection
  deriving DecidableEq, Repr

/-! ## Unit register -/

/-- R44. -/
inductive TankerState where
  | idle | planned | released
  deriving DecidableEq, Repr

/-- The compartment record (the table before R35). -/
structure Compartment where
  capacity : Nat
  /-- the residue mark -/
  lastProduct : Option Nat
  drained : Bool
  deriving DecidableEq, Repr

/-- The unit record (the table before R35); its count n is the length of the list (R35; assumption 20). -/
structure Tanker where
  number : Nat
  maxPayload : Nat
  state : TankerState
  bay : Option Bay
  compartments : List Compartment
  deriving DecidableEq, Repr

/-! ## Consignment register -/

/-- R75. -/
inductive ConsignmentState where
  | opened | complete | released
  deriving DecidableEq, Repr

/-- R67. -/
inductive LineState where
  | planned | authorised | filling | filled | stalled | shortClosed | cancelled
  deriving DecidableEq, Repr

/-- R68, R115. -/
inductive Cause where
  | clamp | probe | station | esd | timeout | stopButton | hostStop | bayReset | vehicleLeft | meterFault
  | shortFinish | overfill
  deriving DecidableEq, Repr

/-- The line record (the table before R66). -/
structure Line where
  compartment : Nat
  product : Nat
  ordered : Nat
  loaded : Nat
  state : LineState
  cause : Option Cause
  lastPermit : Option Nat
  deriving DecidableEq, Repr

/-- R51. -/
inductive Packing where
  | none | i | ii | iii
  deriving DecidableEq, Repr

/-- One entry of the paper image (R79). -/
structure PaperEntry where
  compartment : Nat
  product : Nat
  un : Nat
  hazard : Nat
  subsidiary : Nat
  packing : Packing
  loaded : Nat
  deriving DecidableEq, Repr

/-- The paper image (R79). -/
structure PaperImage where
  consignment : Nat
  tanker : Nat
  card : Nat
  destination : Option Nat
  releaseMinute : Nat
  entries : List PaperEntry
  deriving DecidableEq, Repr

/-- The consignment record (the table after R65). -/
structure Consignment where
  number : Nat
  tanker : Nat
  driver : Nat
  plan : RoundPlan
  destination : Option Nat
  state : ConsignmentState
  lines : List Line
  image : Option PaperImage
  deriving DecidableEq, Repr

/-! ## Stored settings -/

/-- The limits set (R19). -/
structure Limits where
  dDay : Nat
  cMax : Nat
  bMin : Nat
  sDuty : Nat
  wDrive : Nat
  margin : Nat
  handling : Nat
  fNom : Nat
  tolerance : Nat
  /-- site time counts as break -/
  breakFlag : Bool
  deriving DecidableEq, Repr

/-- The eight settings of a bay (R135). -/
structure BaySettings where
  rank : Nat
  flow : Nat
  allowance : Nat
  slowdown : Nat
  groups : Mask
  initialTimeout : Nat
  progressTimeout : Nat
  enabled : Bool
  deriving DecidableEq, Repr

/-- A product entry without its reference count (R50, R51). -/
structure Product where
  defined : Bool
  un : Nat
  hazard : Nat
  subsidiary : Nat
  packing : Packing
  group : Nat
  density : Nat
  deriving DecidableEq, Repr

/-- R57. -/
inductive Relation where
  | mix | apart | exclude
  deriving DecidableEq, Repr

/-- The settings: what the image stores and the working copy holds (12, R176). -/
structure Settings where
  limits : Limits
  bays : PerBay BaySettings
  products : Vector Product 64
  matrix : Vector (Vector Relation 16) 16
  /-- enable mask over the bay kinds (R170) -/
  bayKinds : Mask
  /-- enable mask over the gantry kinds (R170) -/
  gantryKinds : Mask
  deriving DecidableEq, Repr

/-- The non-volatile image (R176): what it holds (absent once erased) and whether its checksum matches that. -/
structure Image where
  contents : Option Settings
  checksumMatches : Bool
  deriving DecidableEq, Repr

/-- R176. -/
inductive SaveState where
  | idle | erasing | writing | verifying
  deriving DecidableEq, Repr

/-- The Settings Store (R176, R177). -/
structure Store where
  /-- the working copy -/
  settings : Settings
  image : Image
  save : SaveState
  /-- the copy being saved, present while a save is in flight -/
  copy : Option Settings
  deriving DecidableEq, Repr

/-! ## Load authorisation engine -/

/-- Refusal reasons (00; R90, R84, R125, R128). -/
inductive Reason where
  | lineState | papersState | clock | esd | bayNotReady | driverMismatch | driverHeld | expired | endorsement
  | bayProduct | residue | segregation | hours | residual | pending | unknownCard | unknownUnit
  deriving DecidableEq, Repr

/-- An entry of the evaluation queue (R83). -/
structure Entry where
  bay : Bay
  compartment : Nat
  deriving DecidableEq, Repr

/-- The evaluation in flight with its record holds (R85, R88). -/
structure Evaluation where
  bay : Bay
  compartment : Nat
  /-- its entry has been dropped (R88) -/
  dropped : Bool
  heldTanker : Option Nat
  heldConsignment : Option Nat
  heldDriver : Option Nat
  deriving DecidableEq, Repr

/-- R83. -/
structure Engine where
  /-- first in, first out: the head is the oldest -/
  queue : List Entry
  evaluation : Option Evaluation
  /-- the next permit number to try -/
  counter : Nat
  deriving DecidableEq, Repr

/-! ## Filling supervision -/

/-- The permit record (the table before R101). -/
structure Permit where
  number : Nat
  consignment : Nat
  /-- the line, named by its compartment -/
  line : Nat
  base : Nat
  stopPoint : Nat
  slowdownPoint : Nat
  issueMinute : Nat
  slack : Int
  deriving DecidableEq, Repr

/-- A permit slot (the table before R105). -/
structure PermitSlot where
  permit : Option Permit
  lastReading : Option Nat
  flow : Option Flow
  /-- the progress timer: absent while stopped, else the milliseconds it was last started with (R112; assumption 2) -/
  timer : Option Nat
  /-- the PERMIT output (R105) -/
  output : Bool
  deriving DecidableEq, Repr

/-- An entry of the stall table (R106); the table lists them in the order they were created. -/
structure StallEntry where
  consignment : Nat
  compartment : Nat
  permit : Nat
  base : Nat
  deriving DecidableEq, Repr

/-- Filling Supervision (R105, R106, R120). -/
structure Filling where
  permits : PerBay PermitSlot
  stallTable : List StallEntry
  /-- the ESD state, which follows the ESD input -/
  esd : Bool
  deriving DecidableEq, Repr

/-! ## Bay slots -/

/-- R122. -/
inductive Link where
  | offline | up
  deriving DecidableEq, Repr

/-- R122. -/
inductive SlotState where
  | offline | vacant | occupied | loading
  deriving DecidableEq, Repr

/-- R132, R133. -/
inductive Lamp where
  | off | on | flash | unknown
  deriving DecidableEq, Repr

/-- The unit present at a bay: the tag last reported and whether it names a unit standing there (R125). -/
structure Present where
  tag : Nat
  known : Bool
  deriving DecidableEq, Repr

/-- The last refusal formed for a bay (R133). -/
structure LastRefusal where
  compartment : Nat
  reason : Reason
  deriving DecidableEq, Repr

/-- What the slot wants the arm lock to be (R134). -/
inductive LockDesired where
  | disengaged | engaged
  deriving DecidableEq, Repr

/-- The slot record (R122). -/
structure Slot where
  link : Link
  state : SlotState
  present : Option Present
  card : Option Nat
  clamp : Clamp
  probe : Probe
  go : Lamp
  call : Lamp
  lockReported : LockState
  lockDesired : LockDesired
  lastRefusal : Option LastRefusal
  deriving DecidableEq, Repr

/-! ## Gantry bus controller -/

/-- A command to a bay station (R161). A LAMP carries the host's mark of R133. -/
inductive BusCommand where
  | joinCall
  | limits (flow allowance slowdown : Nat)
  | permit (number compartment product stopPoint slowdownPoint : Nat)
  | refusal (compartment : Nat) (reason : Reason)
  | close (number : Nat)
  | lamp (go call : Lamp) (hostMark : Bool)
  | armToggle
  deriving DecidableEq, Repr

/-- R152. -/
inductive GrantPhase where
  | granted | held
  deriving DecidableEq, Repr

/-- The grant record (R150). -/
structure Grant where
  bay : Bay
  cls : RequestClass
  phase : GrantPhase
  /-- the grant timer: the milliseconds it was last started with (R152, R153; assumption 2) -/
  timer : Nat
  deriving DecidableEq, Repr

/-- A waiting command (R154). -/
structure Waiting where
  bay : Bay
  command : BusCommand
  deriving DecidableEq, Repr

/-- The command being sent (R156). -/
structure Transmission where
  bay : Bay
  command : BusCommand
  /-- absent for a JOIN_CALL -/
  number : Option Nat
  /-- its bay has gone OFFLINE, so it is forgotten at its end (R148) -/
  forgotten : Bool
  deriving DecidableEq, Repr

/-- A command sent and not yet acknowledged (R156). -/
structure Outstanding where
  command : BusCommand
  number : Nat
  /-- the acknowledgement timer: the milliseconds it was started with (R158; assumption 2) -/
  timer : Nat
  deriving DecidableEq, Repr

/-- The Gantry Bus Controller (R148). -/
structure Bus where
  urgent : PerBay Bool
  routine : PerBay Bool
  served : PerBay Bool
  grant : Option Grant
  transmission : Option Transmission
  /-- the waiting commands of every bay in the one global order, oldest first (R154) -/
  outbound : List Waiting
  numbers : PerBay Nat
  outstanding : PerBay (Option Outstanding)
  deriving DecidableEq, Repr

/-! ## Office port -/

/-- R166. -/
inductive ResultCode where
  | ok | clamped | checksum | length | unknownCommand | badValue | notFound | duplicate | full | inUse | wrongState
  | busy | clockUnset | segregation | overload | hours | expired | overrun
  deriving DecidableEq, Repr

/-- A response (R162). -/
structure Response where
  /-- the echoed code -/
  code : Byte
  result : ResultCode
  payload : List Byte
  deriving DecidableEq, Repr

/-- R162. -/
inductive Receive where
  | hunting | receiving
  deriving DecidableEq, Repr

/-- The kinds of start (R167). -/
inductive StartKind where
  | powerOn | hard | soft
  deriving DecidableEq, Repr

/-- The Office Port (R162 to R165, R167). -/
structure Port where
  rx : Receive
  /-- the bytes of the frame after its mark -/
  buffer : List Byte
  /-- the frame timer: absent while stopped, else the milliseconds it was started with -/
  frameTimer : Option Nat
  /-- the execution flag -/
  executing : Bool
  /-- the overrun mark -/
  overrun : Bool
  /-- responses handed to the link and not yet sent whole, oldest first (assumption 7) -/
  sending : List Response
  /-- the reset a RESET has arranged (R167) -/
  resetArranged : Option StartKind
  deriving DecidableEq, Repr

/-! ## Attention unit -/

/-- The bay kinds (the table before R170). -/
inductive BayKind where
  | call | refused | permitEnded | overrun | overfill | stopped | clampChanged | probeTripped | vehicleChanged
  | vehicleConflict | stationChanged | commandDone
  deriving DecidableEq, Repr

/-- The gantry kinds (the table before R170). -/
inductive GantryKind where
  | restarted | settingsDefaulted | saveDone | saveFailed | esdChanged | hoursTight | hoursShort | grantExpired | queueFull
  deriving DecidableEq, Repr

/-- The Attention Unit (R170 to R172). -/
structure Attention where
  gantry : Mask
  bays : PerBay Mask
  /-- the ATTN output -/
  attn : Bool
  deriving DecidableEq, Repr

/-! ## The whole block -/

/-- The state of the block. -/
structure State where
  clock : Clock
  /-- the driver register, ascending by card (R5; assumption 20) -/
  drivers : List Driver
  /-- the unit register, ascending by number (R34; assumption 20) -/
  tankers : List Tanker
  /-- the consignment register, ascending by number (R64; assumption 20) -/
  consignments : List Consignment
  /-- the reference count of each product code, from code 1 (R55) -/
  refCounts : Vector Nat 64
  store : Store
  engine : Engine
  filling : Filling
  slots : PerBay Slot
  bus : Bus
  port : Port
  attention : Attention
  /-- the kind of the last start (R167) -/
  startKind : StartKind
  /-- the commands waiting to reach the block, first in first out (assumption 1) -/
  pending : List Instr
  deriving DecidableEq, Repr

/-- The reasons the block stops with a fault. None: the spec names no behaviour that stops the part, and no meaning
answers with a fault, so the type is empty (INVENTORY, "Faults"). Safe: there is nothing here to raise. -/
inductive Fault where
  deriving DecidableEq, Repr

/-- The reasons a command is refused by the model. -/
inductive Refusal where
  /-- Raised by an arm of exec whose command has no meaning yet. No arm of this model raises it. Safe: the model stops
  where the part goes on. -/
  | notModelled (mnemonic : String)
  deriving DecidableEq, Repr

/-! ## Updates: one block of the state replaced, the others kept -/

def State.withClock (s : State) (x : Clock) : State := { s with clock := x }
def State.withDrivers (s : State) (x : List Driver) : State := { s with drivers := x }
def State.withTankers (s : State) (x : List Tanker) : State := { s with tankers := x }
def State.withConsignments (s : State) (x : List Consignment) : State := { s with consignments := x }
def State.withRefCounts (s : State) (x : Vector Nat 64) : State := { s with refCounts := x }
def State.withStore (s : State) (x : Store) : State := { s with store := x }
def State.withEngine (s : State) (x : Engine) : State := { s with engine := x }
def State.withFilling (s : State) (x : Filling) : State := { s with filling := x }
def State.withSlots (s : State) (x : PerBay Slot) : State := { s with slots := x }
def State.withBus (s : State) (x : Bus) : State := { s with bus := x }
def State.withPort (s : State) (x : Port) : State := { s with port := x }
def State.withAttention (s : State) (x : Attention) : State := { s with attention := x }
def State.withStartKind (s : State) (x : StartKind) : State := { s with startKind := x }
def State.withPending (s : State) (x : List Instr) : State := { s with pending := x }

/-! ## Defaults and the state after reset -/

/-- The default limits set (the table before R19). -/
def Limits.default : Limits :=
  { dDay := 540, cMax := 270, bMin := 45, sDuty := 780, wDrive := 3360, margin := 15, handling := 20, fNom := 2000,
    tolerance := 50, breakFlag := true }

/-- The default settings of a bay (the table before R135); the default rank is the bay number. -/
def BaySettings.default (b : Bay) : BaySettings :=
  { rank := b.num, flow := 1500, allowance := 100, slowdown := 500, groups := 0xFFFF, initialTimeout := 60,
    progressTimeout := 10, enabled := true }

/-- The blank content of a product entry (R50). -/
def Product.blank : Product :=
  { defined := false, un := 0, hazard := 0, subsidiary := 0, packing := .none, group := 0, density := 1000 }

/-- Every bay kind (the table before R170): bits 0 to 11. -/
def allBayKinds : Mask := 0x0FFF

/-- Every gantry kind (the table before R170): bits 0 to 8. -/
def allGantryKinds : Mask := 0x01FF

/-- A table of twelve given bay by bay. -/
def perBay {α : Type} (f : Bay → α) : PerBay α :=
  #v[f .b1, f .b2, f .b3, f .b4, f .b5, f .b6, f .b7, f .b8, f .b9, f .b10, f .b11, f .b12]

/-- The defaults that stand when the image is bad (12, table of the image). -/
def Settings.default : Settings :=
  { limits := .default, bays := perBay BaySettings.default, products := Vector.replicate 64 .blank,
    matrix := Vector.replicate 16 (Vector.replicate 16 .mix), bayKinds := allBayKinds, gantryKinds := allGantryKinds }

/-- The clock after power-on and hard reset (R1). -/
def Clock.initial : Clock := { minute := 0, unset := true, counted := 0 }

/-- An empty permit slot (R105). -/
def PermitSlot.empty : PermitSlot := { permit := none, lastReading := none, flow := none, timer := none, output := false }

/-- A slot after a start, with the present readings of its inputs (R122). -/
def Slot.initial (clamp : Clamp) (probe : Probe) : Slot :=
  { link := .offline, state := .offline, present := none, card := none, clamp := clamp, probe := probe, go := .unknown,
    call := .unknown, lockReported := .unknown, lockDesired := .disengaged, lastRefusal := none }

/-- The engine after a start (R83). -/
def Engine.initial : Engine := { queue := [], evaluation := none, counter := 1 }

/-- The port after a start (R162, R167). -/
def Port.initial : Port :=
  { rx := .hunting, buffer := [], frameTimer := none, executing := false, overrun := false, sending := [],
    resetArranged := none }

/-- The bus controller emptied (R148), before the JOIN_CALLs of the start. -/
def Bus.initial : Bus :=
  { urgent := Vector.replicate 12 false, routine := Vector.replicate 12 false, served := Vector.replicate 12 false,
    grant := none, transmission := none, outbound := [], numbers := Vector.replicate 12 0,
    outstanding := Vector.replicate 12 none }

/-- The block right after power-on. The image is bad (assumption 10), so the settings are the defaults and
SETTINGS_DEFAULTED stands beside RESTARTED (R170, R176); the inputs read OPEN, HEALTHY and clear (assumption 9); a
JOIN_CALL goes to each enabled bay in ascending order (R148), and the pick of R150 has begun sending the first. -/
def State.reset : State :=
  { clock := .initial, drivers := [], tankers := [], consignments := [], refCounts := Vector.replicate 64 0,
    store := { settings := .default, image := { contents := none, checksumMatches := false }, save := .idle, copy := none },
    engine := .initial,
    filling := { permits := Vector.replicate 12 .empty, stallTable := [], esd := false },
    slots := Vector.replicate 12 (.initial .opened .healthy),
    bus := { Bus.initial with
      transmission := some { bay := .b1, command := .joinCall, number := none, forgotten := false }
      outbound := Bay.all.tail.map (fun b => { bay := b, command := .joinCall }) },
    port := .initial,
    attention := { gantry := 0x0003, bays := Vector.replicate 12 0, attn := true },
    startKind := .powerOn, pending := [] }

end Sys2Proof.Machine
end

