-- ==== Sys2Proof/Machine/Operands.lean ====
section
/-! DEFINITION. The forms in which operands are judged: the ranges of keys (00, "Keys and ranges"), clamped settings
(00, "Clamped settings and declaration data"), yes or no bytes, presence bytes and enumerated codes of a command payload
(R168, R169). -/

namespace Sys2Proof.Machine

/-- lo ≤ n ≤ hi. -/
def inRange (lo hi n : Nat) : Bool := lo ≤ n && n ≤ hi

/-- A card number or a consignment number: neither 0 nor 4,294,967,295 (R7, R69). -/
def validKey (n : Nat) : Bool := inRange 1 Config.maxKey n

/-- A unit number (R36). -/
def validTanker (n : Nat) : Bool := inRange 1 Config.maxTanker n

/-- A product code (R53). -/
def validCode (n : Nat) : Bool := inRange 1 64 n

/-- A value brought into its range: below it to the lower bound, above it to the upper (R20, R135). -/
def clampTo (lo hi n : Nat) : Nat := if n < lo then lo else if hi < n then hi else n

/-- A yes or no byte of declaration data: 1 yes, 0 no, anything else out of range (R168). -/
def yesNo : Nat → Option Bool
  | 0 => some false
  | 1 => some true
  | _ => none

/-- A yes or no byte of a clamped setting: anything other than yes or no is taken as yes (R20, R135). -/
def yesNoClamped (n : Nat) : Bool := n != 0

/-- A presence byte is 1 or 0 (R168). DEDUCED: any other value is out of range (assumption 13). -/
def validOpt (f : OptField) : Bool := f.presence == 0 || f.presence == 1

/-- The field's value when it is present (R168). -/
def optValue (f : OptField) : Option Nat := if f.presence = 1 then some f.value else none

/-- A field that spells absent as 0 (R168). -/
def zeroAbsent (n : Nat) : Option Nat := if n = 0 then none else some n

/-- The packing group of a code (R169). -/
def packingOf? : Nat → Option Packing
  | 0 => some .none
  | 1 => some .i
  | 2 => some .ii
  | 3 => some .iii
  | _ => none

/-- The relation of a code (R169). -/
def relationOf? : Nat → Option Relation
  | 0 => some .mix
  | 1 => some .apart
  | 2 => some .exclude
  | _ => none

/-- The CALL value of a code: ON, FLASH or OFF (R133, R169). -/
def callOf? : Nat → Option Lamp
  | 0 => some .off
  | 1 => some .on
  | 2 => some .flash
  | _ => none

/-- Every relation of a row, when each is MIX, APART or EXCLUDE (R58). -/
def relationsOf? : List Nat → Option (List Relation)
  | [] => some []
  | n :: ns =>
    match relationOf? n, relationsOf? ns with
    | some r, some rs => some (r :: rs)
    | _, _ => none

/-- The mask of the classes 1 to 9, which endorsement classes keep within (R7). -/
def classBits : Mask := 0x03FE

/-- Endorsement classes lie within 1 to 9 (R7). -/
def validClasses (m : Mask) : Bool := m &&& ~~~classBits == 0

/-- The four accounts lie in their ranges (R7, R9). -/
def validAccounts (a : Accounts) : Bool :=
  a.driveDay ≤ 1440 && a.driveCont ≤ 1440 && a.dutyShift ≤ 1440 && a.drivePeriod ≤ 10080

/-- A round plan lies in its ranges (R32, R69). -/
def validPlan (p : RoundPlan) : Bool :=
  inRange 1 900 p.drive && inRange p.drive 1440 p.duty && inRange 1 p.drive p.longestLeg

/-- A member of a mask (R168). -/
def member (m : Mask) (k : Nat) : Bool := m.getLsbD k

/-- The limits set a SET_LIMITS stores: each numeric field clamped, the break flag taken as yes when it is neither (R20). -/
def clampedLimits (a : LimitsArgs) : Limits :=
  { dDay := clampTo 60 900 a.dDay, cMax := clampTo 60 480 a.cMax, bMin := clampTo 15 120 a.bMin,
    sDuty := clampTo 120 1080 a.sDuty, wDrive := clampTo 600 6000 a.wDrive, margin := clampTo 0 120 a.margin,
    handling := clampTo 0 120 a.handling, fNom := clampTo 100 6000 a.fNom, tolerance := clampTo 0 500 a.tolerance,
    breakFlag := yesNoClamped a.breakFlag }

/-- No field of a SET_LIMITS is brought into range (R20). -/
def limitsInRange (a : LimitsArgs) : Bool :=
  inRange 60 900 a.dDay && inRange 60 480 a.cMax && inRange 15 120 a.bMin
    && inRange 120 1080 a.sDuty && inRange 600 6000 a.wDrive && inRange 0 120 a.margin
    && inRange 0 120 a.handling && inRange 100 6000 a.fNom && inRange 0 500 a.tolerance
    && (yesNo a.breakFlag).isSome

/-- The settings a SET_BAY gives, each brought into its range (R135). -/
def clampedBay (a : BayArgs) : BaySettings :=
  { rank := clampTo 1 12 a.rank, flow := clampTo 100 6000 a.flow, allowance := clampTo 0 400 a.allowance,
    slowdown := clampTo 0 2000 a.slowdown, groups := a.groups, initialTimeout := clampTo 10 300 a.initialTimeout,
    progressTimeout := clampTo 2 60 a.progressTimeout, enabled := yesNoClamped a.enabled }

/-- No setting of a SET_BAY is brought into range; an allowance and slowdown kept for a live permit do not count
(R135). -/
def bayInRange (a : BayArgs) (kept : Bool) : Bool :=
  inRange 1 12 a.rank && inRange 100 6000 a.flow
    && (kept || (inRange 0 400 a.allowance && inRange 0 2000 a.slowdown))
    && inRange 10 300 a.initialTimeout && inRange 2 60 a.progressTimeout && (yesNo a.enabled).isSome

/-- The entry a SET_PRODUCT with the defined mark yes describes, when every field is in range and the profile agrees
(R51, R53). -/
def productProfile? (a : ProductArgs) : Option Product :=
  match packingOf? a.packing with
  | none => none
  | some pg =>
    if a.un ≤ 3600 ∧ a.hazard ≤ 9 ∧ a.subsidiary ≤ 9 ∧ a.group ≤ 15 ∧ 500 ≤ a.density ∧ a.density ≤ 2000
        ∧ (if a.hazard = 0 then a.un = 0 ∧ a.subsidiary = 0 ∧ pg = .none else 1 ≤ a.un ∧ a.subsidiary ≠ a.hazard) then
      some { defined := true, un := a.un, hazard := a.hazard, subsidiary := a.subsidiary, packing := pg, group := a.group,
             density := a.density }
    else none

end Sys2Proof.Machine
end

