-- ==== Sys2Proof/Machine/Flags.lean ====
section
/-! DEFINITION. Attention: the bit of each kind (the table before R170), raising and acknowledging flags (R171, R174), and
the ATTN output, which follows every change (R172). -/

namespace Sys2Proof.Machine

/-- The bit of a bay kind. -/
def BayKind.bit : BayKind → Nat
  | .call => 0 | .refused => 1 | .permitEnded => 2 | .overrun => 3 | .overfill => 4 | .stopped => 5
  | .clampChanged => 6 | .probeTripped => 7 | .vehicleChanged => 8 | .vehicleConflict => 9 | .stationChanged => 10
  | .commandDone => 11

/-- The bit of a gantry kind. -/
def GantryKind.bit : GantryKind → Nat
  | .restarted => 0 | .settingsDefaulted => 1 | .saveDone => 2 | .saveFailed => 3 | .esdChanged => 4 | .hoursTight => 5
  | .hoursShort => 6 | .grantExpired => 7 | .queueFull => 8

/-- The mask with one bit set. -/
def bitMask (k : Nat) : Mask := 1#16 <<< k

/-- ATTN is asserted while at least one set flag belongs to an enabled kind (R172). -/
def attnLevel (settings : Settings) (a : Attention) : Bool :=
  a.gantry &&& settings.gantryKinds != 0 || Bay.all.any (fun b => a.bays.look b &&& settings.bayKinds != 0)

/-- ATTN follows the flags and the masks at once (R172). -/
def State.refreshAttn (s : State) : State :=
  s.withAttention { s.attention with attn := attnLevel s.store.settings s.attention }

/-- The flag sets replaced, ATTN following (R172). -/
def State.setFlags (gantry : Mask) (bays : PerBay Mask) (s : State) : State :=
  (s.withAttention { s.attention with gantry := gantry, bays := bays }).refreshAttn

/-- A gantry flag is raised: a flag already set stays set (R171). -/
def State.raiseGantry (k : GantryKind) (s : State) : State :=
  s.setFlags (s.attention.gantry ||| bitMask k.bit) s.attention.bays

/-- A flag of one bay is raised: a flag already set stays set (R171). -/
def State.raiseBay (b : Bay) (k : BayKind) (s : State) : State :=
  s.setFlags s.attention.gantry (s.attention.bays.put b (s.attention.bays.look b ||| bitMask k.bit))

/-- Is a gantry flag set? -/
def State.gantryFlag (s : State) (k : GantryKind) : Bool := s.attention.gantry.getLsbD k.bit

/-- Is a flag of a bay set? -/
def State.bayFlag (s : State) (b : Bay) (k : BayKind) : Bool := (s.attention.bays.look b).getLsbD k.bit

end Sys2Proof.Machine
end

