-- ==== Sys2Proof/Machine/Ops.lean ====
section
/-! DEFINITION. The shared operations of the blocks: the registers and their lookups, the reference counts, the bus queues,
the lamps and the arm lock, the end of a permit and the stall operation, a refusal, an evaluation's beginning, a slot going
OFFLINE, the pick of the bus, and a start. The meanings in the family files call these. -/

namespace Sys2Proof.Machine

/-! ## Registers: maps held as lists in ascending order of key (assumption 20) -/

/-- The record with a key (R16, R37, R65). -/
def lookupBy {α : Type} (key : α → Nat) (k : Nat) (xs : List α) : Option α := xs.find? (fun x => key x == k)

/-- A record added in its place. -/
def insertBy {α : Type} (key : α → Nat) (x : α) : List α → List α
  | [] => [x]
  | y :: ys => if key x < key y then x :: y :: ys else if key x = key y then x :: ys else y :: insertBy key x ys

/-- The record with a key changed in place. -/
def updateBy {α : Type} (key : α → Nat) (k : Nat) (f : α → α) (xs : List α) : List α :=
  xs.map (fun x => if key x = k then f x else x)

/-- The record with a key removed. -/
def removeBy {α : Type} (key : α → Nat) (k : Nat) (xs : List α) : List α := xs.filter (fun x => key x != k)

/-- Lookup by card (R16). -/
def State.driver? (s : State) (card : Nat) : Option Driver := lookupBy Driver.card card s.drivers

/-- A driver record changed. -/
def State.updateDriver (card : Nat) (f : Driver → Driver) (s : State) : State :=
  s.withDrivers (updateBy Driver.card card f s.drivers)

/-- Lookup by unit number (R37). -/
def State.tanker? (s : State) (number : Nat) : Option Tanker := lookupBy Tanker.number number s.tankers

/-- A unit record changed. -/
def State.updateTanker (number : Nat) (f : Tanker → Tanker) (s : State) : State :=
  s.withTankers (updateBy Tanker.number number f s.tankers)

/-- Lookup by consignment number (R65). -/
def State.consignment? (s : State) (number : Nat) : Option Consignment :=
  lookupBy Consignment.number number s.consignments

/-- A consignment record changed. -/
def State.updateConsignment (number : Nat) (f : Consignment → Consignment) (s : State) : State :=
  s.withConsignments (updateBy Consignment.number number f s.consignments)

/-- The consignment naming a unit, in any state (R65). -/
def State.consignmentOf? (s : State) (tanker : Nat) : Option Consignment := s.consignments.find? (fun c => c.tanker == tanker)

/-- The line of a consignment on a compartment (05, "The line record"). -/
def Consignment.line? (c : Consignment) (compartment : Nat) : Option Line :=
  c.lines.find? (fun l => l.compartment == compartment)

/-- The consignment with its line on a compartment changed. -/
def Consignment.mapLine (compartment : Nat) (f : Line → Line) (c : Consignment) : Consignment :=
  { c with lines := c.lines.map (fun l => if l.compartment = compartment then f l else l) }

/-- The line of a consignment, both named by number. -/
def State.line? (s : State) (number compartment : Nat) : Option Line :=
  (s.consignment? number).bind (fun c => c.line? compartment)

/-- A line changed. -/
def State.updateLine (number compartment : Nat) (f : Line → Line) (s : State) : State :=
  s.updateConsignment number (Consignment.mapLine compartment f)

/-- Compartment c of a unit, numbered from 1. -/
def Tanker.compartment? (t : Tanker) : Nat → Option Compartment
  | 0 => none
  | k + 1 => t.compartments[k]?

/-- The unit with compartment c changed. -/
def Tanker.mapCompartment (t : Tanker) (f : Compartment → Compartment) : Nat → Tanker
  | 0 => t
  | k + 1 => { t with compartments := t.compartments.modify k f }

/-- The capacity of a unit's compartment; 0 where there is none (assumption 15). -/
def State.capacity (s : State) (tanker compartment : Nat) : Nat :=
  (((s.tanker? tanker).bind (·.compartment? compartment)).map (·.capacity)).getD 0

/-- Drained set on one compartment of a unit (R41, R42). -/
def State.setDrained (tanker compartment : Nat) (v : Bool) (s : State) : State :=
  s.updateTanker tanker (fun t => t.mapCompartment (fun k => { k with drained := v }) compartment)

/-- The unit whose bay field holds b (R35, R129). -/
def State.tankerAt? (s : State) (b : Bay) : Option Tanker := s.tankers.find? (fun t => t.bay == some b)

/-! ## Settings and products -/

/-- The settings of a bay in the working copy. -/
def State.settingsOf (s : State) (b : Bay) : BaySettings := s.store.settings.bays.look b

/-- The entry at a product code (R56). -/
def Settings.product (c : Settings) : Nat → Product
  | 0 => .blank
  | k + 1 => c.products[k]?.getD .blank

/-- The entry at a product code in the working copy (R56). -/
def State.product (s : State) (code : Nat) : Product := s.store.settings.product code

/-- The relation of two groups (R57). -/
def Settings.relation (c : Settings) (g h : Nat) : Relation := (c.matrix[g]?.bind (·[h]?)).getD .mix

/-- The relation of two product codes (R60). -/
def State.relationOf (s : State) (p q : Nat) : Relation :=
  s.store.settings.relation (s.product p).group (s.product q).group

/-- Two compartments are adjacent when their numbers differ by exactly 1 (R60). -/
def adjacent (c d : Nat) : Bool := c == d + 1 || d == c + 1

/-- The reference count of a product code (R55). -/
def State.refCount (s : State) : Nat → Nat
  | 0 => 0
  | k + 1 => s.refCounts[k]?.getD 0

/-- The count of one product code moved. -/
def moveCount (f : Nat → Nat) (counts : Vector Nat 64) : Nat → Vector Nat 64
  | 0 => counts
  | k + 1 => counts.setIfInBounds k (f (counts[k]?.getD 0))

/-- The count of a product code rises by one (R55). -/
def State.countUp (code : Nat) (s : State) : State := s.withRefCounts (moveCount (· + 1) s.refCounts code)

/-- The count of a product code falls by one (R55). -/
def State.countDown (code : Nat) (s : State) : State := s.withRefCounts (moveCount (· - 1) s.refCounts code)

/-- The counts of several codes rise, one for each naming (R55). -/
def State.countUpAll (codes : List Nat) (s : State) : State := codes.foldl (fun s p => s.countUp p) s

/-- The counts of several codes fall, one for each naming (R55). -/
def State.countDownAll (codes : List Nat) (s : State) : State := codes.foldl (fun s p => s.countDown p) s

/-- The codes the last-product marks of a unit name, one for each mark (R55). -/
def Tanker.marks (t : Tanker) : List Nat := t.compartments.filterMap (·.lastProduct)

/-- The codes the lines of a consignment name, one for each line, CANCELLED ones included (R55). -/
def Consignment.products (c : Consignment) : List Nat := c.lines.map (·.product)

/-! ## Record holds (R86) -/

/-- The evaluation in flight holds this driver (R8). -/
def State.driverHeld (s : State) (card : Nat) : Bool := s.engine.evaluation.any (fun e => e.heldDriver == some card)

/-- The evaluation in flight holds this unit (R38). -/
def State.tankerHeld (s : State) (number : Nat) : Bool := s.engine.evaluation.any (fun e => e.heldTanker == some number)

/-- The evaluation in flight holds this consignment (R71). -/
def State.consignmentHeld (s : State) (number : Nat) : Bool :=
  s.engine.evaluation.any (fun e => e.heldConsignment == some number)

/-! ## Slots and permit slots -/

/-- The slot record of a bay. -/
def State.slot (s : State) (b : Bay) : Slot := s.slots.look b

/-- A slot record changed. -/
def State.updateSlot (b : Bay) (f : Slot → Slot) (s : State) : State := s.withSlots (s.slots.put b (f (s.slot b)))

/-- The permit slot of a bay. -/
def State.permitSlot (s : State) (b : Bay) : PermitSlot := s.filling.permits.look b

/-- A permit slot replaced. -/
def State.setPermitSlot (b : Bay) (p : PermitSlot) (s : State) : State :=
  s.withFilling { s.filling with permits := s.filling.permits.put b p }

/-- The slot moved to a state; the link is UP exactly outside OFFLINE (R122). -/
def Slot.move (slot : Slot) (dest : SlotState) : Slot :=
  { slot with state := dest, link := if dest = .offline then .offline else .up }

/-- The stall table replaced. -/
def State.setStallTable (t : List StallEntry) (s : State) : State := s.withFilling { s.filling with stallTable := t }

/-- The entry of one line removed (R106). -/
def State.dropStallEntry (number compartment : Nat) (s : State) : State :=
  s.setStallTable (s.filling.stallTable.filter (fun e => !(e.consignment == number && e.compartment == compartment)))

/-- The entry of a line created last of all; at most one entry a line (R106). -/
def State.addStallEntry (e : StallEntry) (s : State) : State :=
  let s := s.dropStallEntry e.consignment e.compartment
  s.setStallTable (s.filling.stallTable ++ [e])

/-! ## Outbound queues (R154, R155) -/

/-- The waiting commands of a bay, oldest first. -/
def State.waitingOf (s : State) (b : Bay) : List Waiting := s.bus.outbound.filter (fun w => w.bay == b)

/-- A command is queued: it takes the newest place, or, where the bay's queue holds 4, it is not queued and QUEUE_FULL is
raised (R154). -/
def State.queueCommand (b : Bay) (c : BusCommand) (s : State) : State :=
  if (s.waitingOf b).length < Config.maxWaiting then
    s.withBus { s.bus with outbound := s.bus.outbound ++ [{ bay := b, command := c }] }
  else s.raiseGantry .queueFull

/-- A LAMP. -/
def BusCommand.isLamp : BusCommand → Bool
  | .lamp _ _ _ => true
  | _ => false

/-- A LAMP that carries the host's mark (R133). -/
def BusCommand.isMarkedLamp : BusCommand → Bool
  | .lamp _ _ mark => mark
  | _ => false

/-- A LAMP of a bay waits in its queue (R155). -/
def State.lampWaits (s : State) (b : Bay) : Bool := s.bus.outbound.any (fun w => w.bay == b && w.command.isLamp)

/-- A waiting LAMP of the bay replaced in its place, the host's mark inherited; any other command kept (R155). -/
def replaceLamp (b : Bay) (go call : Lamp) (mark : Bool) (w : Waiting) : Waiting :=
  if w.bay = b then
    match w.command with
    | .lamp _ _ m => { w with command := .lamp go call (mark || m) }
    | _ => w
  else w

/-- A LAMP carrying both lamp fields as they stand is queued, or replaces the LAMP that waits (R132, R155). -/
def State.queueLamp (b : Bay) (mark : Bool) (s : State) : State :=
  let go := (s.slot b).go
  let call := (s.slot b).call
  if s.lampWaits b then
    s.withBus { s.bus with outbound := s.bus.outbound.map (replaceLamp b go call mark) }
  else s.queueCommand b (.lamp go call mark)

/-! ## Lamps and arm lock (R132 to R134) -/

/-- What makes an OCCUPIED slot's GO flash (R132). -/
def State.readyToAsk (s : State) (b : Bay) : Bool :=
  let slot := s.slot b
  match slot.present with
  | some { tag := tag, known := true } =>
    match s.consignmentOf? tag with
    | some c => c.state == .opened && slot.card == some c.driver && slot.clamp == .closed && slot.probe == .healthy
    | none => false
  | _ => false

/-- The computed GO value (R132). -/
def State.computedGo (s : State) (b : Bay) : Lamp :=
  match (s.slot b).state with
  | .loading => .on
  | .occupied => if s.readyToAsk b then .flash else .off
  | .vacant | .offline => .off

/-- GO recomputed: when the slot is UP and the value differs, the field takes it and a LAMP is queued (R132). -/
def State.recomputeGo (b : Bay) (s : State) : State :=
  if (s.slot b).link = .up ∧ s.computedGo b ≠ (s.slot b).go then
    (s.updateSlot b (fun slot => { slot with go := s.computedGo b })).queueLamp b false
  else s

/-- GO recomputed at the bay where a unit stands, if it stands at one (R70, R75, R78). -/
def State.recomputeGoOf (tanker : Nat) (s : State) : State :=
  match (s.tanker? tanker).bind (·.bay) with
  | some b => s.recomputeGo b
  | none => s

/-- The lock is wrong (R134). -/
def Slot.lockWrong (slot : Slot) : Bool :=
  match slot.lockDesired, slot.lockReported with
  | .engaged, .engaged => false
  | .engaged, _ => true
  | .disengaged, .engaged => true
  | .disengaged, _ => false

/-- An ARM_TOGGLE to the bay is waiting, in transmission or awaiting acknowledgement (R134). -/
def State.toggleInHand (s : State) (b : Bay) : Bool :=
  s.bus.outbound.any (fun w => w.bay == b && w.command == .armToggle)
    || s.bus.transmission.any (fun t => t.bay == b && t.command == .armToggle)
    || (s.bus.outstanding.look b).any (fun o => o.command == .armToggle)

/-- The lock tested: an ARM_TOGGLE is queued when the lock is wrong, the slot UP and none in hand (R134). -/
def State.testLock (b : Bay) (s : State) : State :=
  if (s.slot b).lockWrong ∧ (s.slot b).link = .up ∧ s.toggleInHand b = false then s.queueCommand b .armToggle else s

/-- The desired state an arm lock has in a slot state (R134). -/
def SlotState.lock : SlotState → LockDesired
  | .loading => .engaged
  | .offline | .vacant | .occupied => .disengaged

/-- The desired state recomputed, and the lock tested in the step of a change of it (R134). -/
def State.recomputeLock (b : Bay) (s : State) : State :=
  let want := (s.slot b).state.lock
  if (s.slot b).lockDesired = want then s
  else (s.updateSlot b (fun slot => { slot with lockDesired := want })).testLock b

/-- A refusal formed for a bay: recorded, queued, REFUSED raised, and CALL set to FLASH with a LAMP after the REFUSAL when
it was not FLASH (R133, R99). -/
def State.refuse (b : Bay) (compartment : Nat) (r : Reason) (s : State) : State :=
  let s := s.updateSlot b (fun slot => { slot with lastRefusal := some ⟨compartment, r⟩ })
  let s := (s.queueCommand b (.refusal compartment r)).raiseBay b .refused
  if (s.slot b).call = .flash then s
  else (s.updateSlot b (fun slot => { slot with call := .flash })).queueLamp b false

/-! ## The complete test (R75) -/

/-- Every line not CANCELLED has ended and at least one of them has loaded product (R75). -/
def Consignment.allEnded (c : Consignment) : Bool :=
  let wanted := c.lines.filter (fun l => l.state != .cancelled)
  wanted.all (fun l => l.state == .filled || l.state == .shortClosed) && wanted.any (fun l => l.loaded > 0)

/-- The complete test, applied in the step that ends a line (R75). -/
def State.completeTest (number : Nat) (s : State) : State :=
  match s.consignment? number with
  | none => s
  | some c =>
    if c.state = .opened ∧ c.allEnded then
      (s.updateConsignment number (fun c => { c with state := .complete })).recomputeGoOf c.tanker
    else s

/-! ## The end of a permit (R115, R116) -/

/-- What every end of a live permit does at the bay: the permit slot empties, its timer stops, PERMIT goes off, a LOADING
slot goes to the state given, the CLOSE (if any) is queued, then GO and the arm lock are recomputed (R116). -/
def State.endPermit (b : Bay) (dest : SlotState) (close : Option Nat) (s : State) : State :=
  let s := s.setPermitSlot b .empty
  let s := s.updateSlot b (fun slot => if slot.state = .loading then slot.move dest else slot)
  let s := match close with
    | some n => s.queueCommand b (.close n)
    | none => s
  (s.recomputeGo b).recomputeLock b

/-- The stall operation: bay b's live permit, if it holds one, ends with a cause, the slot going to the state the event
gives it (OCCUPIED unless the event itself moves it). A CLOSE is queued if the station link is UP (R115). -/
def State.stall (b : Bay) (cause : Cause) (dest : SlotState) (s : State) : State :=
  match (s.permitSlot b).permit with
  | none => s
  | some p =>
    let s := s.updateLine p.consignment p.line (fun l => { l with state := .stalled, cause := some cause })
    let s := s.addStallEntry { consignment := p.consignment, compartment := p.line, permit := p.number, base := p.base }
    let close := if dest ≠ .offline ∧ (s.slot b).link = .up then some p.number else none
    (s.endPermit b dest close).raiseBay b .permitEnded

/-! ## Evaluations (R85, R88) -/

/-- The evaluation of an entry at its beginning, with the record holds it fixes (R85). -/
def State.evaluationOf (s : State) (e : Entry) : Evaluation :=
  let tanker := match (s.slot e.bay).present with
    | some { tag := tag, known := true } => (s.tanker? tag).map (·.number)
    | _ => none
  let consignment := tanker.bind s.consignmentOf?
  { bay := e.bay, compartment := e.compartment, dropped := false, heldTanker := tanker,
    heldConsignment := consignment.map (·.number), heldDriver := consignment.map (·.driver) }

/-- The entry at the head begins when no evaluation is in flight (R85). -/
def State.beginEvaluation (s : State) : State :=
  match s.engine.evaluation, s.engine.queue with
  | none, e :: _ => s.withEngine { s.engine with evaluation := some (s.evaluationOf e) }
  | _, _ => s

/-- Bay b's entry dropped: it leaves the queue, and its evaluation in flight is marked dropped and stays (R88). -/
def State.dropEntry (b : Bay) (s : State) : State :=
  s.withEngine { s.engine with
    queue := s.engine.queue.filter (fun e => e.bay != b)
    evaluation := s.engine.evaluation.map (fun e => if e.bay = b then { e with dropped := true } else e) }

/-- A completion's end: the evaluation and its holds end, and the next entry at the head, if any, begins (R85, R89, R99,
R102). -/
def State.endEvaluation (s : State) : State := (s.withEngine { s.engine with evaluation := none }).beginEvaluation

/-! ## A slot going OFFLINE (R124, R148) -/

/-- What the bus controller does when bay b goes OFFLINE (R148): its requests, mark, queue and outstanding command go, its
command number is 0, and a transmission to it is forgotten at its end. A grant or hold of b is left. -/
def State.clearBus (b : Bay) (s : State) : State :=
  s.withBus { s.bus with
    urgent := s.bus.urgent.put b false
    routine := s.bus.routine.put b false
    served := s.bus.served.put b false
    transmission := s.bus.transmission.map (fun t => if t.bay = b then { t with forgotten := true } else t)
    outbound := s.bus.outbound.filter (fun w => w.bay != b)
    numbers := s.bus.numbers.put b 0
    outstanding := s.bus.outstanding.put b none }

/-- The bay field of the unit a slot holds as known is removed (R40, R124, R127). -/
def State.clearPosition (b : Bay) (s : State) : State :=
  match (s.slot b).present with
  | some { tag := tag, known := true } => s.updateTanker tag (fun t => { t with bay := none })
  | _ => s

/-- The fields of a slot that goes OFFLINE (R124 steps 3, 5 and 6); clamp and probe go on following their inputs. -/
def Slot.offline (slot : Slot) : Slot := Slot.initial slot.clamp slot.probe

/-- Bay b's slot goes OFFLINE with a cause. A slot already OFFLINE takes step 4 and STATION_CHANGED only (R124). -/
def State.goOffline (b : Bay) (cause : Cause) (s : State) : State :=
  if (s.slot b).state = .offline then (s.clearBus b).raiseBay b .stationChanged
  else
    let s := (s.stall b cause .offline).dropEntry b
    let s := (s.clearPosition b).clearBus b
    (s.updateSlot b Slot.offline).raiseBay b .stationChanged

/-! ## The pick (R150, R151) -/

/-- The bus is free (R150). -/
def State.busFree (s : State) : Bool := s.bus.grant.isNone && s.bus.transmission.isNone

/-- The bay of lowest rank among those a test selects, ties to the lower bay number (R150). -/
def State.lowestRank (s : State) (among : Bay → Bool) : Option Bay :=
  Bay.all.foldl (fun best b =>
    if among b then
      match best with
      | none => some b
      | some a => if (s.settingsOf b).rank < (s.settingsOf a).rank then some b else some a
    else best) none

/-- A grant is issued and the grant timer started (R150). -/
def State.issueGrant (b : Bay) (cls : RequestClass) (s : State) : State :=
  s.withBus { s.bus with grant := some { bay := b, cls := cls, phase := .granted, timer := Config.grantTimeout } }

/-- A waiting command can be sent: its bay has no outstanding command (R150 step 2). -/
def State.sendable (s : State) (w : Waiting) : Bool := (s.bus.outstanding.look w.bay).isNone

/-- The transmission of a waiting command begins: it leaves the queue, and every command but a JOIN_CALL takes the bay's
command number, which moves on (R154, R156). -/
def State.beginTransmission (w : Waiting) (s : State) : State :=
  let n := s.bus.numbers.look w.bay
  let numbered := w.command != .joinCall
  s.withBus { s.bus with
    outbound := s.bus.outbound.eraseP s.sendable
    numbers := if numbered then s.bus.numbers.put w.bay ((n + 1) % 256) else s.bus.numbers
    transmission := some { bay := w.bay, command := w.command, number := if numbered then some n else none,
                           forgotten := false } }

/-- Step 3 of a pick: when every pending ROUTINE bay is marked the round clears, and the unmarked pending bay of lowest
rank gets a ROUTINE grant and a mark (R151). -/
def State.pickRoutine (s : State) : State :=
  if Bay.all.any (fun b => s.bus.routine.look b) then
    let served :=
      if Bay.all.all (fun b => !s.bus.routine.look b || s.bus.served.look b) then perBay (fun _ => false) else s.bus.served
    match s.lowestRank (fun b => s.bus.routine.look b && !served.look b) with
    | some b => (s.withBus { s.bus with served := served.put b true }).issueGrant b .routine
    | none => s
  else s

/-- One pick, made when the bus is free: an URGENT grant, else the oldest sendable command, else, with no evaluation in
flight, a ROUTINE grant (R150, R87). -/
def State.pick (s : State) : State :=
  if s.busFree then
    match s.lowestRank (fun b => s.bus.urgent.look b) with
    | some b => s.issueGrant b .urgent
    | none =>
      match s.bus.outbound.find? s.sendable with
      | some w => s.beginTransmission w
      | none => if s.engine.evaluation.isSome then s else s.pickRoutine
  else s

/-- A message has arrived whole from bay b: when b holds the bus the hold ends and the bus is free; the message is
delivered when its fields are in range and the slot is UP or the message is HELLO; then a pick is made (R152, R160). A
message from a bay that does not hold the bus is discarded (assumption 14). -/
def State.message (b : Bay) (inRange hello : Bool) (deliver : State → State) (s : State) : State :=
  match s.bus.grant with
  | some g =>
    if g.bay = b ∧ g.phase = .held then
      let s := s.withBus { s.bus with grant := none }
      if inRange && (hello || (s.slot b).link == .up) then (deliver s).pick else s.pick
    else s
  | none => s

/-! ## Office port (R162 to R165) -/

/-- An owner's answer: the result code and the payload. -/
structure Reply where
  result : ResultCode
  payload : List Byte
  deriving DecidableEq, Repr

/-- Answered OK with a payload. -/
def okWith (payload : List Byte) (s : State) : State × Reply := (s, ⟨.ok, payload⟩)

/-- Answered OK with no payload. -/
def okay (s : State) : State × Reply := (s, ⟨.ok, []⟩)

/-- Refused with a result code, no payload, nothing changed. -/
def refused (r : ResultCode) (s : State) : State × Reply := (s, ⟨r, []⟩)

/-- A response handed to the link; the port returns to HUNTING as the answer begins (R163). -/
def State.answer (code : Byte) (r : Reply) (s : State) : State :=
  s.withPort { s.port with
    rx := .hunting, buffer := [], frameTimer := none
    sending := s.port.sending ++ [{ code := code, result := r.result, payload := r.payload }] }

/-- A frame that fails one of the port's own checks is answered once, with the echoed code and no payload (R163, R164). -/
def State.portFails (code : Byte) (r : ResultCode) (s : State) : State := s.answer code ⟨r, []⟩

/-- A mark that arrives while a command executes sets the overrun mark (R165). -/
def State.markOverrun (s : State) : State := s.withPort { s.port with overrun := true }

/-- A frame that passes is taken: the execution flag is set, the owner's checks and effects run in one step, and the answer
is handed to the link (R164). -/
def State.execute (code : Byte) (owner : State → State × Reply) (s : State) : State :=
  let (t, r) := owner s
  (t.withPort { t.port with executing := true }).answer code r

/-- A host command's whole frame, which passes the port's checks: taken unless a command is executing, when only its mark
is noticed (R164, R165; assumption 4). -/
def State.hostFrame (code : Byte) (owner : State → State × Reply) (s : State) : State :=
  if s.port.executing then s.markOverrun else s.execute code owner

/-- A host command's whole frame with a counted or listed payload: answered LENGTH when the length does not fit (R164
check 3). -/
def State.countedFrame (code : Byte) (lengthFits : Bool) (owner : State → State × Reply) (s : State) : State :=
  if s.port.executing then s.markOverrun
  else if lengthFits then s.execute code owner
  else s.portFails code .length

/-! ## Starts (R1, R5, R34, R50, R64, R83, R105, R122, R148, R167, R170, R176) -/

/-- The records emptied and every block but the clock and the Settings Store put into its state after a start, with
RESTARTED the only flag. -/
def State.emptied (s : State) : State :=
  { s with
    drivers := [], tankers := [], consignments := [], refCounts := Vector.replicate 64 0
    engine := .initial
    filling := { permits := Vector.replicate 12 .empty, stallTable := [], esd := s.filling.esd }
    slots := perBay (fun b => .initial (s.slot b).clamp (s.slot b).probe)
    bus := .initial
    port := .initial
    attention := { s.attention with gantry := bitMask GantryKind.restarted.bit, bays := Vector.replicate 12 0 } }

/-- A JOIN_CALL queued to each enabled bay, in ascending bay order (R148). -/
def State.joinCalls (s : State) : State :=
  Bay.all.foldl (fun s b => if (s.settingsOf b).enabled then s.queueCommand b .joinCall else s) s

/-- What every start ends with: the JOIN_CALLs, ESD_CHANGED when the ESD input is asserted (R121), ATTN, and the pick. -/
def State.started (kind : StartKind) (s : State) : State :=
  let s := ({ s with startKind := kind } : State).joinCalls
  let s := if s.filling.esd then s.raiseGantry .esdChanged else s
  s.refreshAttn.pick

/-- Power-on and hard reset: the clock UNSET at 0 (R1), the image loaded if good and the defaults taken with
SETTINGS_DEFAULTED if bad, a save in flight abandoned (R176, R179). -/
def State.restart (kind : StartKind) (s : State) : State :=
  let s := { s.emptied with clock := .initial }
  let store := { s.store with save := .idle, copy := none }
  match s.store.image.contents, s.store.image.checksumMatches with
  | some settings, true => (s.withStore { store with settings := settings }).started kind
  | _, _ => ((s.withStore { store with settings := .default }).raiseGantry .settingsDefaulted).started kind

/-- Soft reset: the clock, the working copy and a save in flight are kept (R1, R179). -/
def State.softRestart (s : State) : State := s.emptied.started .soft

end Sys2Proof.Machine
end

