-- ==== Sys2Proof/Machine/Payload.lean ====
section
/-! DEFINITION. What the host reads: the codes of enumerated fields (R169) and result codes (R166), the layout of every
response payload (R168), and a response as the bytes of its frame (R162). -/

namespace Sys2Proof.Machine

/-! ## Codes -/

/-- R166. -/
def ResultCode.code : ResultCode → Nat
  | .ok => 0 | .clamped => 1 | .checksum => 2 | .length => 3 | .unknownCommand => 4 | .badValue => 5 | .notFound => 6
  | .duplicate => 7 | .full => 8 | .inUse => 9 | .wrongState => 10 | .busy => 11 | .clockUnset => 12 | .segregation => 13
  | .overload => 14 | .hours => 15 | .expired => 16 | .overrun => 17

def DriverState.code : DriverState → Nat
  | .onSite => 0 | .assigned => 1 | .dispatched => 2

def Limit.code : Limit → Nat
  | .day => 0 | .cont => 1 | .duty => 2 | .period => 3

def Verdict.code : Verdict → Nat
  | .clear => 0 | .tight => 1 | .short => 2

def Expiry.code : Expiry → Nat
  | .valid => 0 | .expired => 1

def ConsignmentState.code : ConsignmentState → Nat
  | .opened => 0 | .complete => 1 | .released => 2

def LineState.code : LineState → Nat
  | .planned => 0 | .authorised => 1 | .filling => 2 | .filled => 3 | .stalled => 4 | .shortClosed => 5 | .cancelled => 6

def Cause.code : Cause → Nat
  | .clamp => 1 | .probe => 2 | .station => 3 | .esd => 4 | .timeout => 5 | .stopButton => 6 | .hostStop => 7
  | .bayReset => 8 | .vehicleLeft => 9 | .meterFault => 10 | .shortFinish => 11 | .overfill => 12

def Packing.code : Packing → Nat
  | .none => 0 | .i => 1 | .ii => 2 | .iii => 3

def TankerState.code : TankerState → Nat
  | .idle => 0 | .planned => 1 | .released => 2

def Relation.code : Relation → Nat
  | .mix => 0 | .apart => 1 | .exclude => 2

def Link.code : Link → Nat
  | .offline => 0 | .up => 1

def SlotState.code : SlotState → Nat
  | .offline => 0 | .vacant => 1 | .occupied => 2 | .loading => 3

def Lamp.code : Lamp → Nat
  | .off => 0 | .on => 1 | .flash => 2 | .unknown => 3

def clampCode : Clamp → Nat
  | .opened => 0 | .closed => 1

def probeCode : Probe → Nat
  | .healthy => 0 | .tripped => 1

def lockCode : LockState → Nat
  | .disengaged => 0 | .engaged => 1 | .unknown => 2

def LockDesired.code : LockDesired → Nat
  | .disengaged => 0 | .engaged => 1

def flowCode : Flow → Nat
  | .stopped => 0 | .flowing => 1

def Reason.code : Reason → Nat
  | .lineState => 1 | .papersState => 2 | .clock => 3 | .esd => 4 | .bayNotReady => 5 | .driverMismatch => 6
  | .driverHeld => 7 | .expired => 8 | .endorsement => 9 | .bayProduct => 10 | .residue => 11 | .segregation => 12
  | .hours => 13 | .residual => 14 | .pending => 15 | .unknownCard => 16 | .unknownUnit => 17

def StartKind.code : StartKind → Nat
  | .powerOn => 0 | .hard => 1 | .soft => 2

/-! ## Fields -/

/-- A field of one byte. -/
def u8 (n : Nat) : List Byte := leBytes 1 n

/-- A field of two bytes, low byte first. -/
def u16 (n : Nat) : List Byte := leBytes 2 n

/-- A field of three bytes. -/
def u24 (n : Nat) : List Byte := leBytes 3 n

/-- A field of four bytes. -/
def u32 (n : Nat) : List Byte := leBytes 4 n

/-- A signed field of two bytes, in two's complement (R162). -/
def i16 (n : Int) : List Byte := leBytes 2 (n % 65536).toNat

/-- A yes or no field (R168). -/
def yn (b : Bool) : List Byte := u8 (if b then 1 else 0)

/-- An optional field: its presence byte, then its w bytes, sent as 0 when it is absent (R168). -/
def opt {α : Type} (w : Nat) (f : α → List Byte) : Option α → List Byte
  | none => u8 0 ++ leBytes w 0
  | some x => u8 1 ++ f x

/-! ## Layouts -/

/-- The ten fields of the limits set, laid out as SET_LIMITS (R168). -/
def limitsBytes (l : Limits) : List Byte :=
  u16 l.dDay ++ u16 l.cMax ++ u16 l.bMin ++ u16 l.sDuty ++ u16 l.wDrive ++ u16 l.margin ++ u16 l.handling ++ u16 l.fNom
    ++ u16 l.tolerance ++ yn l.breakFlag

/-- The eight settings of a bay, laid out as SET_BAY without the bay (R168). -/
def baySettingsBytes (b : BaySettings) : List Byte :=
  u8 b.rank ++ u16 b.flow ++ u16 b.allowance ++ u16 b.slowdown ++ maskBytes b.groups ++ u16 b.initialTimeout
    ++ u8 b.progressTimeout ++ yn b.enabled

/-- GET_PRODUCT: an entry and its reference count (R168). -/
def productBytes (p : Product) (refCount : Nat) : List Byte :=
  yn p.defined ++ u16 p.un ++ u8 p.hazard ++ u8 p.subsidiary ++ u8 p.packing.code ++ u8 p.group ++ u16 p.density
    ++ u16 refCount

/-- The projection record, 18 bytes, offsets 42 to 59 of READ_DRIVER (R168). -/
def projectionBytes (p : Projection) : List Byte :=
  u24 p.computedAt ++ u16 p.loading ++ i16 p.slackDuty ++ i16 p.slackDay ++ i16 p.slackPeriod ++ i16 p.slackCont
    ++ i16 p.minSlack ++ u8 p.binding.code ++ u8 p.verdict.code ++ u8 p.expiry.code

/-- Verdict, min slack, binding limit and expiry verdict: UPDATE_SUMMARY of an ASSIGNED driver, and a RELEASE refused
EXPIRED or HOURS (R168). -/
def verdictBytes (p : Projection) : List Byte :=
  u8 p.verdict.code ++ i16 p.minSlack ++ u8 p.binding.code ++ u8 p.expiry.code

/-- READ_DRIVER, 60 bytes (R168). -/
def driverBytes (d : Driver) : List Byte :=
  u32 d.card ++ maskBytes d.classes ++ yn d.tank ++ u16 d.licenceUntil ++ u16 d.endorsementUntil
    ++ accountBytes d.accounts ++ u24 d.summaryStamp ++ opt 3 u24 d.arrival ++ u8 d.state.code ++ yn d.hold
    ++ opt 4 u32 d.consignment ++ opt 7 (fun c => u16 c.drive ++ u16 c.duty ++ u24 c.stamp) d.committed
    ++ opt 18 projectionBytes d.projection

/-- READ_UNIT: 13 + 4 × n bytes (R168). -/
def tankerBytes (t : Tanker) (consignment : Option Nat) : List Byte :=
  u24 t.number ++ u8 t.compartments.length ++ u16 t.maxPayload ++ u8 t.state.code ++ u8 ((t.bay.map Bay.num).getD 0)
    ++ opt 4 u32 consignment
    ++ t.compartments.flatMap (fun k => u16 k.capacity ++ u8 (k.lastProduct.getD 0) ++ yn k.drained)

/-- One line of READ_CONSIGNMENT, 10 bytes (R168). -/
def lineBytes (l : Line) : List Byte :=
  u8 l.compartment ++ u8 l.product ++ u16 l.ordered ++ u16 l.loaded ++ u8 l.state.code ++ u8 ((l.cause.map Cause.code).getD 0)
    ++ u16 (l.lastPermit.getD 0)

/-- The summed litres of a paper image (R79). -/
def PaperImage.total (p : PaperImage) : Nat := (p.entries.map (·.loaded)).sum

/-- One entry of the paper image, 9 bytes (R168). -/
def entryBytes (e : PaperEntry) : List Byte :=
  u8 e.compartment ++ u8 e.product ++ u16 e.un ++ u8 e.hazard ++ u8 e.subsidiary ++ u8 e.packing.code ++ u16 e.loaded

/-- The paper image block, which goes on only when an image is present (R168). -/
def imageBytes : Option PaperImage → List Byte
  | none => u8 0
  | some p => u8 1 ++ u24 p.releaseMinute ++ u8 p.entries.length ++ u24 p.total ++ p.entries.flatMap entryBytes

/-- READ_CONSIGNMENT, 33 to 182 bytes (R168). -/
def consignmentBytes (c : Consignment) : List Byte :=
  u32 c.number ++ u24 c.tanker ++ u32 c.driver ++ planBytes c.plan ++ opt 2 u16 c.destination ++ u8 c.state.code
    ++ u8 c.lines.length ++ c.lines.flatMap lineBytes ++ imageBytes c.image

/-- The live permit block of BAY_STATUS, offsets 22 to 43 (R168, R105). -/
def permitBytes (slot : PermitSlot) (loaded : Nat) : List Byte :=
  match slot.permit with
  | none => u8 0 ++ leBytes 21 0
  | some p =>
    u8 1 ++ u16 p.number ++ u8 p.line ++ u16 p.base ++ u16 p.stopPoint ++ u16 p.slowdownPoint ++ u24 p.issueMinute
      ++ i16 p.slack ++ opt 2 u16 slot.lastReading ++ opt 1 (fun f => u8 (flowCode f)) slot.flow ++ u16 loaded

/-- BAY_STATUS, 44 bytes (R168). -/
def slotBytes (slot : Slot) (permit : PermitSlot) (loaded : Nat) : List Byte :=
  u8 slot.link.code ++ u8 slot.state.code ++ opt 4 (fun p => u24 p.tag ++ yn p.known) slot.present
    ++ opt 4 u32 slot.card ++ u8 (clampCode slot.clamp) ++ u8 (probeCode slot.probe) ++ yn permit.output
    ++ u8 slot.go.code ++ u8 slot.call.code ++ u8 (lockCode slot.lockReported) ++ u8 slot.lockDesired.code
    ++ opt 2 (fun r => u8 r.compartment ++ u8 r.reason.code) slot.lastRefusal ++ permitBytes permit loaded

/-- READ_ATTENTION, 30 bytes (R173). -/
def attentionBytes (a : Attention) (settings : Settings) : List Byte :=
  maskBytes a.gantry ++ Bay.all.flatMap (fun b => maskBytes (a.bays.look b)) ++ maskBytes settings.bayKinds
    ++ maskBytes settings.gantryKinds

/-- The relations of a matrix row, for h from 0 to 15 in order (R168). -/
def rowBytes (settings : Settings) (g : Nat) : List Byte :=
  (List.range 16).flatMap (fun h => u8 (settings.relation g h).code)

/-- A response as the bytes of its frame: mark, echoed code, result, length, payload, sum (R162). -/
def Response.frame (r : Response) : List Byte :=
  let body := r.code :: BitVec.ofNat 8 r.result.code :: BitVec.ofNat 8 r.payload.length :: r.payload
  Config.responseMark :: body ++ maskBytes (byteSum body)

end Sys2Proof.Machine
end

