-- ==== Sys2Proof/Machine/Hours.lean ====
section
/-! DEFINITION. The hours projection (02): what it reads (R22), its stages (R23 to R30), the record (R31), and the limits set
commands and PROJECT (R20, R21, R32, R33). -/

namespace Sys2Proof.Machine

/-- The minutes from a stamp to now added to a start, capped at 1440 (R23). -/
def elapsed (start stamp now : Nat) : Nat := min Config.dayMinutes (start + (now - stamp))

/-- Effective duty (R23). -/
def dutyEff (d : Driver) (now : Nat) : Nat := elapsed d.accounts.dutyShift d.summaryStamp now

/-- Time on site (R23). Every driver that is projected has an arrival stamp (R22); assumption 15 for the others. -/
def onSite (d : Driver) (now : Nat) : Nat := elapsed 0 (d.arrival.getD now) now

/-- What one line adds to the remaining volume (R24). -/
def Line.remaining (l : Line) : Nat :=
  match l.state with
  | .planned | .authorised | .filling | .stalled => l.ordered - l.loaded
  | .filled | .shortClosed | .cancelled => 0

/-- R of R24. -/
def remainingVolume (lines : List Line) : Nat := (lines.map Line.remaining).sum

/-- n_u of R24. -/
def unstarted (lines : List Line) : Nat := (lines.filter (fun l => l.state == .planned)).length

/-- The loading minutes L: the ceiling of R / F, plus H × n_u, capped at 1440 (R25). -/
def loadingMinutes (limits : Limits) (lines : List Line) (flow : Nat) : Nat :=
  min Config.dayMinutes ((remainingVolume lines + (flow - 1)) / flow + limits.handling * unstarted lines)

/-- Effective continuous driving (R27). -/
def contEff (limits : Limits) (d : Driver) (now loading : Nat) : Nat :=
  if limits.breakFlag ∧ limits.bMin ≤ onSite d now + loading then 0 else d.accounts.driveCont

/-- The binding limit: the first of DAY, CONT, DUTY, PERIOD whose slack is the least (R28). -/
def bindingOf (least day cont duty : Int) : Limit :=
  if day = least then .day else if cont = least then .cont else if duty = least then .duty else .period

/-- R29. -/
def verdictOf (margin : Nat) (least : Int) : Verdict :=
  if least < 0 then .short else if least < margin then .tight else .clear

/-- A line other than a CANCELLED one names a product whose hazard class is not 0 (R30). -/
def State.dangerous (s : State) (lines : List Line) : Bool :=
  lines.any (fun l => l.state != .cancelled && (s.product l.product).hazard != 0)

/-- R30: the end day against the licence and, with dangerous lines in the context, the endorsement. -/
def expiryOf (d : Driver) (endDay : Nat) (dangerous : Bool) : Expiry :=
  if d.licenceUntil < endDay ∨ (dangerous ∧ d.endorsementUntil < endDay) then .expired else .valid

/-- The projection of a driver with a round plan, the loading minutes L and whether the context names a dangerous line,
from the clock and the limits set as they stand (R22 to R31). -/
def State.projection (s : State) (d : Driver) (plan : RoundPlan) (loading : Nat) (dangerous : Bool) : Projection :=
  let now := s.clock.minute
  let limits := s.store.settings.limits
  let duty : Int := limits.sDuty - (dutyEff d now + loading + plan.duty : Nat)
  let day : Int := limits.dDay - (d.accounts.driveDay + plan.drive : Nat)
  let period : Int := limits.wDrive - (d.accounts.drivePeriod + plan.drive : Nat)
  let cont : Int := limits.cMax - (contEff limits d now loading + plan.longestLeg : Nat)
  let least := min (min duty day) (min period cont)
  { computedAt := now, loading := loading, slackDuty := duty, slackDay := day, slackPeriod := period, slackCont := cont,
    minSlack := least, binding := bindingOf least day cont duty, verdict := verdictOf limits.margin least,
    expiry := expiryOf d ((now + loading + plan.duty) / 1440) dangerous }

/-- The flow F for a consignment: that of the bay where its unit stands, else F_nom (R25). -/
def State.flowFor (s : State) (c : Consignment) : Nat :=
  match (s.tanker? c.tanker).bind (·.bay) with
  | some b => (s.settingsOf b).flow
  | none => s.store.settings.limits.fNom

/-- The projection with a consignment as loading context and L computed (R22). -/
def State.projectionWith (s : State) (d : Driver) (plan : RoundPlan) (c : Consignment) : Projection :=
  s.projection d plan (loadingMinutes s.store.settings.limits c.lines (s.flowFor c)) (s.dangerous c.lines)

/-- The projection at RELEASE: the consignment as loading context, L taken as 0 (R25, R140). -/
def State.projectionAtRelease (s : State) (d : Driver) (c : Consignment) : Projection :=
  s.projection d c.plan 0 (s.dangerous c.lines)

/-- The projection with no loading context (R22). -/
def State.projectionAlone (s : State) (d : Driver) (plan : RoundPlan) : Projection := s.projection d plan 0 false

/-- A projection written into the driver's last projection, replacing any earlier one (R18). -/
def State.storeProjection (card : Nat) (p : Projection) (s : State) : State :=
  s.updateDriver card (fun d => { d with projection := some p })

/-- The working limits set replaced. -/
def State.setLimits (l : Limits) (s : State) : State :=
  s.withStore { s.store with settings := { s.store.settings with limits := l } }

/-- A save is in flight (R177). -/
def State.saving (s : State) : Bool := s.store.save != .idle

/-- SET_LIMITS (R20). -/
def ownSetLimits (args : LimitsArgs) (s : State) : State × Reply :=
  if s.saving then refused .busy s
  else
    let limits := clampedLimits args
    (s.setLimits limits, ⟨if limitsInRange args then .ok else .clamped, limitsBytes limits⟩)

/-- GET_LIMITS (R21). -/
def ownGetLimits (s : State) : State × Reply := okWith (limitsBytes s.store.settings.limits) s

/-- PROJECT (R32, R33). -/
def ownProject (card : Nat) (plan : RoundPlan) (context : OptField) (s : State) : State × Reply :=
  if s.clock.unset then refused .clockUnset s
  else if !(validKey card && validPlan plan && validOpt context && ((optValue context).all validKey)) then
    refused .badValue s
  else
    match s.driver? card with
    | none => refused .notFound s
    | some d =>
      match (optValue context).map s.consignment? with
      | some none => refused .notFound s
      | found =>
        if s.driverHeld card then refused .busy s
        else if d.state = .dispatched then refused .wrongState s
        else
          let p := match found with
            | some (some c) => s.projectionWith d plan c
            | _ => s.projectionAlone d plan
          okWith (projectionBytes p) (s.storeProjection card p)

/-- SET_LIMITS. -/
def execSetLimits (args : LimitsArgs) (s : State) : Host.Outcome State Fault Refusal :=
  .next (s.hostFrame 0x18 (ownSetLimits args))

/-- GET_LIMITS. -/
def execGetLimits (s : State) : Host.Outcome State Fault Refusal := .next (s.hostFrame 0x19 ownGetLimits)

/-- PROJECT. -/
def execProject (card : Nat) (plan : RoundPlan) (context : OptField) (s : State) : Host.Outcome State Fault Refusal :=
  .next (s.hostFrame 0x37 (ownProject card plan context))

end Sys2Proof.Machine
end

