-- ==== Sys2Proof/Machine/AttentionUnit.lean ====
section
/-! DEFINITION. The Attention Unit's commands (R173 to R175). -/

namespace Sys2Proof.Machine

/-- READ_ATTENTION (R173). -/
def ownReadAttention (s : State) : State × Reply := okWith (attentionBytes s.attention s.store.settings) s

/-- ACK_ATTENTION: entry 0 is the gantry, 1 to 12 a bay; the answer shows the flags left (R174). -/
def ownAckAttention (entry : Nat) (mask : Mask) (s : State) : State × Reply :=
  if entry = 0 then
    let left := s.attention.gantry &&& ~~~mask
    okWith (maskBytes left) (s.setFlags left s.attention.bays)
  else
    match Bay.ofNat? entry with
    | none => refused .badValue s
    | some b =>
      let left := s.attention.bays.look b &&& ~~~mask
      okWith (maskBytes left) (s.setFlags s.attention.gantry (s.attention.bays.put b left))

/-- The enable masks of the working copy replaced, ATTN following (R172). -/
def State.setEnable (bayKinds gantryKinds : Mask) (s : State) : State :=
  (s.withStore { s.store with
    settings := { s.store.settings with bayKinds := bayKinds, gantryKinds := gantryKinds } }).refreshAttn

/-- SET_ATTENTION_ENABLE: bits that stand for no kind are dropped, and the answer is then CLAMPED (R175). -/
def ownSetAttentionEnable (bayKinds gantryKinds : Mask) (s : State) : State × Reply :=
  if s.saving then refused .busy s
  else
    let bk := bayKinds &&& allBayKinds
    let gk := gantryKinds &&& allGantryKinds
    (s.setEnable bk gk,
      ⟨if bk = bayKinds ∧ gk = gantryKinds then .ok else .clamped, maskBytes bk ++ maskBytes gk⟩)

/-- READ_ATTENTION. -/
def execReadAttention (s : State) : Host.Outcome State Fault Refusal := .next (s.hostFrame 0x70 ownReadAttention)

/-- ACK_ATTENTION. -/
def execAckAttention (entry : Nat) (mask : Mask) (s : State) : Host.Outcome State Fault Refusal :=
  .next (s.hostFrame 0x71 (ownAckAttention entry mask))

/-- SET_ATTENTION_ENABLE. -/
def execSetAttentionEnable (bayKinds gantryKinds : Mask) (s : State) : Host.Outcome State Fault Refusal :=
  .next (s.hostFrame 0x72 (ownSetAttentionEnable bayKinds gantryKinds))

end Sys2Proof.Machine
end

