-- ==== Sys2Proof/Machine/Drivers.lean ====
section
/-! DEFINITION. The Driver Register's commands (R7 to R15). -/

namespace Sys2Proof.Machine

/-- ADMIT_DRIVER (R7). -/
def ownAdmitDriver (card : Nat) (args : DriverArgs) (s : State) : State × Reply :=
  if s.clock.unset then refused .clockUnset s
  else
    match yesNo args.tank with
    | none => refused .badValue s
    | some tank =>
      if !(validKey card && validClasses args.classes && args.licenceUntil ≤ 65535 && args.endorsementUntil ≤ 65535
          && validAccounts args.accounts) then refused .badValue s
      else if (s.driver? card).isSome then refused .duplicate s
      else if Config.maxDrivers ≤ s.drivers.length then refused .full s
      else
        okay (s.withDrivers (insertBy Driver.card
          { card := card, classes := args.classes, tank := tank, licenceUntil := args.licenceUntil,
            endorsementUntil := args.endorsementUntil, accounts := args.accounts, summaryStamp := s.clock.minute,
            arrival := some s.clock.minute, state := .onSite, hold := false, consignment := none, committed := none,
            projection := none } s.drivers))

/-- The four accounts replaced and the summary stamp set to now (R9). -/
def Driver.summarised (d : Driver) (a : Accounts) (now : Nat) : Driver := { d with accounts := a, summaryStamp := now }

/-- The return of a dispatched driver (R11). -/
def Driver.returned (d : Driver) (a : Accounts) (now : Nat) : Driver :=
  { d.summarised a now with arrival := some now, committed := none, state := .onSite }

/-- The flag an ASSIGNED driver's new verdict raises (R10). -/
def State.raiseHours (v : Verdict) (s : State) : State :=
  match v with
  | .short => s.raiseGantry .hoursShort
  | .tight => s.raiseGantry .hoursTight
  | .clear => s

/-- UPDATE_SUMMARY of a driver by its state (R9 to R11). -/
def summarise (d : Driver) (a : Accounts) (s : State) : State × Reply :=
  let now := s.clock.minute
  match d.state with
  | .onSite => okay (s.updateDriver d.card (fun d => d.summarised a now))
  | .assigned =>
    match d.consignment.bind s.consignment? with
    | some c =>
      let p := s.projectionWith (d.summarised a now) c.plan c
      okWith (verdictBytes p)
        ((s.updateDriver d.card (fun d => { d.summarised a now with projection := some p })).raiseHours p.verdict)
    | none => okay (s.updateDriver d.card (fun d => d.summarised a now))
  | .dispatched =>
    if d.consignment.isSome then refused .wrongState s
    else okay (s.updateDriver d.card (fun d => d.returned a now))

/-- UPDATE_SUMMARY (R9 to R11, R8). -/
def ownUpdateSummary (card : Nat) (a : Accounts) (s : State) : State × Reply :=
  if s.clock.unset then refused .clockUnset s
  else if !(validKey card && validAccounts a) then refused .badValue s
  else
    match s.driver? card with
    | none => refused .notFound s
    | some d => if s.driverHeld card then refused .busy s else summarise d a s

/-- The driver hold set or removed (R12, R8). -/
def setHold (card : Nat) (v : Bool) (s : State) : State × Reply :=
  if !validKey card then refused .badValue s
  else
    match s.driver? card with
    | none => refused .notFound s
    | some d =>
      if s.driverHeld card then refused .busy s
      else if d.state = .dispatched then refused .wrongState s
      else okay (s.updateDriver card (fun d => { d with hold := v }))

/-- A retired card cleared where it is the card present, GO recomputed (R13); bays in ascending order (assumption 17). -/
def State.clearCard (card : Nat) (s : State) : State :=
  Bay.all.foldl (fun s b =>
    if (s.slot b).card = some card then (s.updateSlot b (fun slot => { slot with card := none })).recomputeGo b else s) s

/-- RETIRE_DRIVER (R13, R8). -/
def ownRetireDriver (card : Nat) (s : State) : State × Reply :=
  if !validKey card then refused .badValue s
  else
    match s.driver? card with
    | none => refused .notFound s
    | some d =>
      if s.driverHeld card then refused .busy s
      else if d.state = .assigned ∨ (d.state = .dispatched ∧ d.consignment.isSome) then refused .inUse s
      else okay ((s.withDrivers (removeBy Driver.card card s.drivers)).clearCard card).pick

/-- READ_DRIVER (R14). -/
def ownReadDriver (card : Nat) (s : State) : State × Reply :=
  if !validKey card then refused .badValue s
  else
    match s.driver? card with
    | none => refused .notFound s
    | some d => okWith (driverBytes d) s

/-- The cards of a page: positions 24 × p + 1 to 24 × p + 24 in ascending order (R15). -/
def State.cardPage (s : State) (page : Nat) : List Nat :=
  ((s.drivers.map (·.card)).drop (Config.cardsPerPage * page)).take Config.cardsPerPage

/-- LIST_DRIVERS (R15). -/
def ownListDrivers (page : Nat) (s : State) : State × Reply :=
  if 3 < page then refused .badValue s
  else
    let cards := s.cardPage page
    okWith (u8 s.drivers.length ++ u8 page ++ u8 cards.length ++ cards.flatMap u32) s

/-- ADMIT_DRIVER. -/
def execAdmitDriver (card : Nat) (args : DriverArgs) (s : State) : Host.Outcome State Fault Refusal :=
  .next (s.hostFrame 0x30 (ownAdmitDriver card args))

/-- UPDATE_SUMMARY. -/
def execUpdateSummary (card : Nat) (accounts : Accounts) (s : State) : Host.Outcome State Fault Refusal :=
  .next (s.hostFrame 0x31 (ownUpdateSummary card accounts))

/-- HOLD_DRIVER. -/
def execHoldDriver (card : Nat) (s : State) : Host.Outcome State Fault Refusal :=
  .next (s.hostFrame 0x32 (setHold card true))

/-- FREE_DRIVER. -/
def execFreeDriver (card : Nat) (s : State) : Host.Outcome State Fault Refusal :=
  .next (s.hostFrame 0x33 (setHold card false))

/-- RETIRE_DRIVER. -/
def execRetireDriver (card : Nat) (s : State) : Host.Outcome State Fault Refusal :=
  .next (s.hostFrame 0x34 (ownRetireDriver card))

/-- READ_DRIVER. -/
def execReadDriver (card : Nat) (s : State) : Host.Outcome State Fault Refusal :=
  .next (s.hostFrame 0x35 (ownReadDriver card))

/-- LIST_DRIVERS. -/
def execListDrivers (page : Nat) (s : State) : Host.Outcome State Fault Refusal :=
  .next (s.hostFrame 0x36 (ownListDrivers page))

end Sys2Proof.Machine
end

