-- ==== Sys2Proof/Machine/Products.lean ====
section
/-! DEFINITION. The Product Tables' commands (R53, R54, R58, R59) and the three segregation tests (R61 to R63). -/

namespace Sys2Proof.Machine

/-- The working copy's entry at a code replaced. -/
def State.setProductEntry (p : Product) (s : State) : Nat → State
  | 0 => s
  | k + 1 => s.withStore { s.store with
      settings := { s.store.settings with products := s.store.settings.products.setIfInBounds k p } }

/-- The entry SET_PRODUCT writes: the fields given when the defined mark is yes, the blank content when it is no; none when
a value is out of range (R51, R53). -/
def writtenProduct? (args : ProductArgs) : Option Product :=
  match yesNo args.defined with
  | some true => productProfile? args
  | some false => some .blank
  | none => none

/-- SET_PRODUCT (R53). -/
def ownSetProduct (code : Nat) (args : ProductArgs) (s : State) : State × Reply :=
  match validCode code, writtenProduct? args with
  | true, some p =>
    if s.saving then refused .busy s
    else if 0 < s.refCount code then refused .inUse s
    else okay (s.setProductEntry p code)
  | _, _ => refused .badValue s

/-- GET_PRODUCT (R54). -/
def ownGetProduct (code : Nat) (s : State) : State × Reply :=
  if !validCode code then refused .badValue s else okWith (productBytes (s.product code) (s.refCount code)) s

/-- A row and its mirrored column written: (g, h) and (h, g) take the relation given for h (R58). -/
def mirrored (m : Vector (Vector Relation 16) 16) (g : Nat) (row : List Relation) : Vector (Vector Relation 16) 16 :=
  Vector.ofFn (fun i => Vector.ofFn (fun j =>
    if i.val = g then row.getD j.val .mix
    else if j.val = g then row.getD i.val .mix
    else m[i][j]))

/-- SET_SEGREGATION (R58). -/
def ownSetSegregation (g : Nat) (row : List Nat) (s : State) : State × Reply :=
  match relationsOf? row with
  | none => refused .badValue s
  | some rs =>
    if 15 < g ∨ rs[g]? ≠ some .mix then refused .badValue s
    else if s.saving then refused .busy s
    else if s.consignments ≠ [] then refused .inUse s
    else okay (s.withStore { s.store with
      settings := { s.store.settings with matrix := mirrored s.store.settings.matrix g rs } })

/-- GET_SEGREGATION (R59). -/
def ownGetSegregation (g : Nat) (s : State) : State × Reply :=
  if 15 < g then refused .badValue s else okWith (rowBytes s.store.settings g) s

/-! ## The three tests -/

/-- Two lines may travel as planned: not EXCLUDE, and not APART on adjacent compartments (R61). -/
def State.mayTravel (s : State) (a b : Line) : Bool :=
  match s.relationOf a.product b.product with
  | .mix => true
  | .apart => !adjacent a.compartment b.compartment
  | .exclude => false

/-- Every pair of distinct lines of a list passes a test. -/
def pairwiseAll {α : Type} (ok : α → α → Bool) : List α → Bool
  | [] => true
  | x :: xs => xs.all (ok x) && pairwiseAll ok xs

/-- The plan-time test over the lines not CANCELLED (R61). -/
def State.planTimeTest (s : State) (lines : List Line) : Bool :=
  pairwiseAll s.mayTravel (lines.filter (fun l => l.state != .cancelled))

/-- The residue test of filling a compartment with product p (R62). -/
def State.residueTest (s : State) (k : Compartment) (p : Nat) : Bool :=
  match k.lastProduct with
  | none => true
  | some q =>
    q == p ||
      match s.relationOf p q with
      | .mix => true
      | .apart => k.drained
      | .exclude => false

/-- A line has product aboard: loaded above 0 or a live permit held for it (R63). -/
def Line.aboard (l : Line) : Bool := l.loaded > 0 || l.state == .authorised || l.state == .filling

/-- The whole-unit test of filling compartment c with product p (R63). -/
def State.wholeUnitTest (s : State) (lines : List Line) (c p : Nat) : Bool :=
  (lines.filter (fun l => l.compartment != c && l.aboard)).all (fun l =>
    match s.relationOf l.product p with
    | .mix => true
    | .apart => !adjacent l.compartment c
    | .exclude => false)

/-- SET_PRODUCT. -/
def execSetProduct (code : Nat) (args : ProductArgs) (s : State) : Host.Outcome State Fault Refusal :=
  .next (s.hostFrame 0x20 (ownSetProduct code args))

/-- GET_PRODUCT. -/
def execGetProduct (code : Nat) (s : State) : Host.Outcome State Fault Refusal :=
  .next (s.hostFrame 0x21 (ownGetProduct code))

/-- SET_SEGREGATION: a fixed-size payload of one group and sixteen relations (R58, R164, R168). -/
def execSetSegregation (group : Nat) (row : List Nat) (s : State) : Host.Outcome State Fault Refusal :=
  .next (s.countedFrame 0x22 (row.length == 16) (ownSetSegregation group row))

/-- GET_SEGREGATION. -/
def execGetSegregation (group : Nat) (s : State) : Host.Outcome State Fault Refusal :=
  .next (s.hostFrame 0x23 (ownGetSegregation group))

end Sys2Proof.Machine
end

