-- ==== Sys2Proof/Machine/Units.lean ====
section
/-! DEFINITION. The Unit Register's commands (R36, R43, R47 to R49) and the payload of a consignment (R45). -/

namespace Sys2Proof.Machine

/-- A compartment ADMIT_UNIT gives is in range, its last product (if any) a defined code (R36, R52). -/
def State.validCompartment (s : State) (a : CompartmentArgs) : Bool :=
  inRange 500 20000 a.capacity
    && (a.lastProduct == 0 || (validCode a.lastProduct && (s.product a.lastProduct).defined))

/-- The unit record ADMIT_UNIT creates (R36). -/
def admittedTanker (number maxPayload : Nat) (compartments : List CompartmentArgs) : Tanker :=
  { number := number, maxPayload := maxPayload, state := .idle, bay := none,
    compartments := compartments.map (fun a =>
      { capacity := a.capacity, lastProduct := zeroAbsent a.lastProduct, drained := false }) }

/-- ADMIT_UNIT (R36). -/
def ownAdmitUnit (number count maxPayload : Nat) (compartments : List CompartmentArgs) (s : State) : State × Reply :=
  if !(validTanker number && inRange 1 8 count && inRange 1000 60000 maxPayload && compartments.all s.validCompartment) then
    refused .badValue s
  else if (s.tanker? number).isSome then refused .duplicate s
  else if Config.maxTankers ≤ s.tankers.length then refused .full s
  else
    let t := admittedTanker number maxPayload compartments
    okay ((s.withTankers (insertBy Tanker.number t s.tankers)).countUpAll t.marks)

/-- A consignment naming the unit has a line on that compartment with product loaded (R41, R43). -/
def State.loadedOn (s : State) (tanker compartment : Nat) : Bool :=
  s.consignments.any (fun c =>
    c.tanker == tanker && c.lines.any (fun l => l.compartment == compartment && l.loaded > 0))

/-- The mark of a compartment removed, its product's count moved, and drained set to no (R43). -/
def State.cleanCompartment (t : Tanker) (compartment : Nat) (s : State) : State :=
  let s' := s.updateTanker t.number
    (fun t => t.mapCompartment (fun k => { k with lastProduct := none, drained := false }) compartment)
  match (t.compartment? compartment).bind (·.lastProduct) with
  | some p => s'.countDown p
  | none => s'

/-- MARK_CLEAN (R43, R38). -/
def ownMarkClean (number compartment : Nat) (s : State) : State × Reply :=
  if !(validTanker number && inRange 1 8 compartment) then refused .badValue s
  else
    match s.tanker? number with
    | none => refused .notFound s
    | some t =>
      if t.compartments.length < compartment then refused .badValue s
      else if s.tankerHeld number then refused .busy s
      else if s.loadedOn number compartment then refused .inUse s
      else okay (s.cleanCompartment t compartment)

/-- Gate-out's part beyond the unit: the RELEASED consignment removed with its references and its driver's consignment
field (R48, R145). -/
def State.gateOut (c : Consignment) (s : State) : State :=
  ((s.withConsignments (removeBy Consignment.number c.number s.consignments)).countDownAll c.products).updateDriver
    c.driver (fun d => { d with consignment := none })

/-- RETIRE_UNIT (R47, R48, R38). -/
def ownRetireUnit (number : Nat) (s : State) : State × Reply :=
  if !validTanker number then refused .badValue s
  else
    match s.tanker? number with
    | none => refused .notFound s
    | some t =>
      if s.tankerHeld number then refused .busy s
      else if t.state = .planned then refused .inUse s
      else if t.bay.isSome then refused .wrongState s
      else
        let gone := (s.withTankers (removeBy Tanker.number number s.tankers)).countDownAll t.marks
        match if t.state = .released then s.consignmentOf? number else none with
        | some c => okWith (opt 4 u32 (some c.number)) (gone.gateOut c)
        | none => okWith (opt 4 u32 none) gone

/-- READ_UNIT (R49). -/
def ownReadUnit (number : Nat) (s : State) : State × Reply :=
  if !validTanker number then refused .badValue s
  else
    match s.tanker? number with
    | none => refused .notFound s
    | some t => okWith (tankerBytes t ((s.consignmentOf? number).map (·.number))) s

/-- One line's term of a payload: litres × density / 1000, rounded up (R45). -/
def payloadTerm (litres density : Nat) : Nat := (litres * density + 999) / 1000

/-- The payload of lines with a choice of litres, over the lines that are not CANCELLED (R45). -/
def State.payloadOf (s : State) (litres : Line → Nat) (lines : List Line) : Nat :=
  ((lines.filter (fun l => l.state != .cancelled)).map (fun l => payloadTerm (litres l) (s.product l.product).density)).sum

/-- ADMIT_UNIT; the payload's length is judged by the port (R36, R164). -/
def execAdmitUnit (number count maxPayload : Nat) (compartments : List CompartmentArgs) (s : State) :
    Host.Outcome State Fault Refusal :=
  .next (s.countedFrame 0x40 (count == compartments.length) (ownAdmitUnit number count maxPayload compartments))

/-- MARK_CLEAN. -/
def execMarkClean (number compartment : Nat) (s : State) : Host.Outcome State Fault Refusal :=
  .next (s.hostFrame 0x41 (ownMarkClean number compartment))

/-- RETIRE_UNIT. -/
def execRetireUnit (number : Nat) (s : State) : Host.Outcome State Fault Refusal :=
  .next (s.hostFrame 0x42 (ownRetireUnit number))

/-- READ_UNIT. -/
def execReadUnit (number : Nat) (s : State) : Host.Outcome State Fault Refusal :=
  .next (s.hostFrame 0x43 (ownReadUnit number))

end Sys2Proof.Machine
end

