-- ==== Sys2Proof/Machine/Consignments.lean ====
section
/-! DEFINITION. The Consignment Register's commands (R69 to R78, R81), the paper image (R79) and RELEASE (R139 to R143). -/

namespace Sys2Proof.Machine

/-! ## Opening -/

/-- A line of OPEN_CONSIGNMENT passes the form check (R69). -/
def validLineForm (l : LineArgs) : Bool := inRange 1 8 l.compartment && validCode l.product && inRange 1 20000 l.ordered

/-- The form check of OPEN_CONSIGNMENT (R69; a presence byte by assumption 13). -/
def validOpenForm (a : OpenArgs) : Bool :=
  validKey a.number && validKey a.card && validTanker a.tanker && validPlan a.plan && validOpt a.destination
    && inRange 1 8 a.lineCount && a.lines.all validLineForm

/-- A line of OPEN_CONSIGNMENT fits the unit: its compartment exists, its volume fits the capacity, its product is defined
(R69 check 5). -/
def State.lineFits (s : State) (t : Tanker) (l : LineArgs) : Bool :=
  match t.compartment? l.compartment with
  | some k => l.ordered ≤ k.capacity && (s.product l.product).defined
  | none => false

/-- No two lines name the same compartment (R69 check 5). -/
def distinctCompartments (lines : List LineArgs) : Bool :=
  pairwiseAll (fun a b => a.compartment != b.compartment) lines

/-- The line OPEN_CONSIGNMENT creates (R70). -/
def openedLine (l : LineArgs) : Line :=
  { compartment := l.compartment, product := l.product, ordered := l.ordered, loaded := 0, state := .planned,
    cause := none, lastPermit := none }

/-- The consignment OPEN_CONSIGNMENT creates (R70). -/
def openedConsignment (a : OpenArgs) : Consignment :=
  { number := a.number, tanker := a.tanker, driver := a.card, plan := a.plan, destination := optValue a.destination,
    state := .opened, lines := a.lines.map openedLine, image := none }

/-- The effects of an accepted opening (R70, R17, R44). -/
def State.openEffects (c : Consignment) (s : State) : State :=
  let s := (s.withConsignments (insertBy Consignment.number c s.consignments)).countUpAll c.products
  let s := s.updateTanker c.tanker (fun t => { t with state := .planned })
  let s := s.updateDriver c.driver (fun d => { d with state := .assigned, consignment := some c.number })
  (s.recomputeGoOf c.tanker).pick

/-- OPEN_CONSIGNMENT (R69, R70). -/
def ownOpenConsignment (a : OpenArgs) (s : State) : State × Reply :=
  if !validOpenForm a then refused .badValue s
  else if (s.consignment? a.number).isSome then refused .duplicate s
  else if Config.maxConsignments ≤ s.consignments.length then refused .full s
  else
    match s.tanker? a.tanker with
    | none => refused .notFound s
    | some t =>
      if s.tankerHeld a.tanker then refused .busy s
      else if t.state ≠ .idle then refused .wrongState s
      else
        match s.driver? a.card with
        | none => refused .notFound s
        | some d =>
          if s.driverHeld a.card then refused .busy s
          else if d.state ≠ .onSite then refused .wrongState s
          else if !(distinctCompartments a.lines && a.lines.all (s.lineFits t)) then refused .badValue s
          else
            let c := openedConsignment a
            let kg := s.payloadOf (·.ordered) c.lines
            if !s.planTimeTest c.lines then refused .segregation s
            else if t.maxPayload < kg then refused .overload s
            else okWith (u24 kg) (s.openEffects c)

/-! ## Amending, cancelling, closing short -/

/-- The form check of a command that names a line (R72 to R74). -/
def validLineName (number compartment : Nat) : Bool := validKey number && inRange 1 8 compartment

/-- A command that names a line, through its form, NOT_FOUND and BUSY checks (R71 to R74). -/
def onLine (number compartment : Nat) (form : Bool) (act : Consignment → Line → State → State × Reply) (s : State) :
    State × Reply :=
  if !(validLineName number compartment && form) then refused .badValue s
  else
    match s.consignment? number with
    | none => refused .notFound s
    | some c =>
      match c.line? compartment with
      | none => refused .notFound s
      | some l => if s.consignmentHeld number then refused .busy s else act c l s

/-- The max payload of a unit; 0 where there is none (assumption 15). -/
def State.maxPayloadOf (s : State) (tanker : Nat) : Nat := ((s.tanker? tanker).map (·.maxPayload)).getD 0

/-- AMEND_LINE past its BUSY check (R72). -/
def amend (ordered : Nat) (c : Consignment) (l : Line) (s : State) : State × Reply :=
  if l.state ≠ .planned ∧ l.state ≠ .stalled then refused .wrongState s
  else if ordered < l.loaded ∨ s.capacity c.tanker l.compartment < ordered then refused .badValue s
  else
    let c' := c.mapLine l.compartment (fun l => { l with ordered := ordered })
    let kg := s.payloadOf (·.ordered) c'.lines
    if s.maxPayloadOf c.tanker < kg then refused .overload s
    else okWith (u24 kg ++ u8 l.state.code) (s.updateLine c.number l.compartment (fun l => { l with ordered := ordered }))

/-- The code of a consignment's state. -/
def State.consignmentCode (s : State) (number : Nat) : List Byte :=
  u8 (((s.consignment? number).map (·.state.code)).getD 0)

/-- CANCEL_LINE past its BUSY check (R73). -/
def cancel (c : Consignment) (l : Line) (s : State) : State × Reply :=
  if l.state ≠ .planned then refused .wrongState s
  else
    let s := ((s.updateLine c.number l.compartment (fun l => { l with state := .cancelled })).completeTest c.number).pick
    okWith (s.consignmentCode c.number) s

/-- CLOSE_SHORT past its BUSY check (R74, R106). -/
def closeLine (c : Consignment) (l : Line) (s : State) : State × Reply :=
  if l.state ≠ .stalled then refused .wrongState s
  else
    let s := s.updateLine c.number l.compartment (fun l => { l with state := .shortClosed })
    let s := ((s.dropStallEntry c.number l.compartment).completeTest c.number).pick
    okWith (u16 l.loaded ++ s.consignmentCode c.number) s

/-! ## Voiding -/

/-- A line is live (R67). -/
def Line.live (l : Line) : Bool := l.state == .authorised || l.state == .filling

/-- The effects of an accepted void (R78, R17, R44, R106). -/
def State.voidEffects (c : Consignment) (s : State) : State :=
  let s := (s.withConsignments (removeBy Consignment.number c.number s.consignments)).countDownAll c.products
  let s := s.setStallTable (s.filling.stallTable.filter (fun e => e.consignment != c.number))
  let s := s.updateTanker c.tanker (fun t => { t with state := .idle })
  let s := s.updateDriver c.driver (fun d => { d with state := .onSite, consignment := none })
  (s.recomputeGoOf c.tanker).pick

/-- VOID_CONSIGNMENT (R77, R78, R71). -/
def ownVoidConsignment (number : Nat) (s : State) : State × Reply :=
  if !validKey number then refused .badValue s
  else
    match s.consignment? number with
    | none => refused .notFound s
    | some c =>
      if s.consignmentHeld number then refused .busy s
      else if c.state = .released then refused .wrongState s
      else if c.lines.any (fun l => l.loaded > 0 || l.live) then refused .inUse s
      else okay (s.voidEffects c)

/-! ## Release -/

/-- Insertion in ascending compartment order (R79). -/
def insertLine (l : Line) : List Line → List Line
  | [] => [l]
  | m :: ms => if l.compartment ≤ m.compartment then l :: m :: ms else m :: insertLine l ms

/-- The lines with product loaded, in ascending compartment order (R79). -/
def loadedLines (lines : List Line) : List Line :=
  (lines.filter (fun l => l.loaded > 0)).foldr insertLine []

/-- A line's entry of the paper image, its product fields copied from the table (R79). -/
def State.paperEntry (s : State) (l : Line) : PaperEntry :=
  let p := s.product l.product
  { compartment := l.compartment, product := l.product, un := p.un, hazard := p.hazard, subsidiary := p.subsidiary,
    packing := p.packing, loaded := l.loaded }

/-- The paper image built at release (R79). -/
def State.paperImage (s : State) (c : Consignment) : PaperImage :=
  { consignment := c.number, tanker := c.tanker, card := c.driver, destination := c.destination,
    releaseMinute := s.clock.minute, entries := (loadedLines c.lines).map s.paperEntry }

/-- A compartment takes a product as its last product; the counts move when the mark changes (R46). -/
def State.markAboard (tanker : Nat) (l : Line) (s : State) : State :=
  match (s.tanker? tanker).bind (·.compartment? l.compartment) with
  | none => s
  | some k =>
    if k.lastProduct = some l.product then s
    else
      let s := match k.lastProduct with
        | some q => s.countDown q
        | none => s
      (s.countUp l.product).updateTanker tanker
        (fun t => t.mapCompartment (fun k => { k with lastProduct := some l.product }) l.compartment)

/-- What release does to the unit: RELEASED, marks from the loaded lines, drained no on every compartment (R46). -/
def State.releaseTanker (c : Consignment) (s : State) : State :=
  let s := (loadedLines c.lines).foldl (fun s l => s.markAboard c.tanker l) s
  s.updateTanker c.tanker (fun t =>
    { t with state := .released, compartments := t.compartments.map (fun k => { k with drained := false }) })

/-- What release does to the driver record besides the stored projection (R142 item 4, R17). -/
def Driver.dispatch (d : Driver) (plan : RoundPlan) (now : Nat) : Driver :=
  { d with state := .dispatched, arrival := none,
           committed := some { drive := plan.drive, duty := plan.duty, stamp := now } }

/-- The changes of an accepted release, in one step (R142). -/
def State.releaseEffects (c : Consignment) (s : State) : State :=
  let image := s.paperImage c
  let s := s.updateConsignment c.number (fun c => { c with state := .released, image := some image })
  (s.releaseTanker c).updateDriver c.driver (fun d => d.dispatch c.plan s.clock.minute)

/-- RELEASE from check 5 on, the projection formed and stored (R140 to R143). -/
def releaseJudged (c : Consignment) (p : Projection) (s : State) : State × Reply :=
  let s := s.storeProjection c.driver p
  if p.expiry = .expired then (s, ⟨.expired, verdictBytes p⟩)
  else if p.verdict = .short then (s.raiseGantry .hoursShort, ⟨.hours, verdictBytes p⟩)
  else
    let kg := s.payloadOf (·.loaded) c.lines
    if s.maxPayloadOf c.tanker < kg then (s, ⟨.overload, u24 kg⟩)
    else
      let image := s.paperImage c
      okWith (u8 image.entries.length ++ u24 image.total ++ u8 p.verdict.code ++ i16 p.minSlack ++ u8 p.binding.code)
        (s.releaseEffects c)

/-- RELEASE (R139). -/
def ownRelease (number : Nat) (s : State) : State × Reply :=
  if !validKey number then refused .badValue s
  else
    match s.consignment? number with
    | none => refused .notFound s
    | some c =>
      if c.state ≠ .complete then refused .wrongState s
      else if s.consignmentHeld number then refused .busy s
      else
        match s.driver? c.driver with
        | none => refused .wrongState s
        | some d =>
          if d.state ≠ .assigned ∨ d.hold then refused .wrongState s
          else releaseJudged c (s.projectionAtRelease d c) s

/-- READ_CONSIGNMENT (R81). -/
def ownReadConsignment (number : Nat) (s : State) : State × Reply :=
  if !validKey number then refused .badValue s
  else
    match s.consignment? number with
    | none => refused .notFound s
    | some c => okWith (consignmentBytes c) s

/-! ## Meanings -/

/-- OPEN_CONSIGNMENT; the payload's length is judged by the port (R69, R164). -/
def execOpenConsignment (args : OpenArgs) (s : State) : Host.Outcome State Fault Refusal :=
  .next (s.countedFrame 0x50 (args.lineCount == args.lines.length) (ownOpenConsignment args))

/-- AMEND_LINE. -/
def execAmendLine (number compartment ordered : Nat) (s : State) : Host.Outcome State Fault Refusal :=
  .next (s.hostFrame 0x51 (onLine number compartment (inRange 1 20000 ordered) (amend ordered)))

/-- CANCEL_LINE. -/
def execCancelLine (number compartment : Nat) (s : State) : Host.Outcome State Fault Refusal :=
  .next (s.hostFrame 0x52 (onLine number compartment true cancel))

/-- CLOSE_SHORT. -/
def execCloseShort (number compartment : Nat) (s : State) : Host.Outcome State Fault Refusal :=
  .next (s.hostFrame 0x53 (onLine number compartment true closeLine))

/-- VOID_CONSIGNMENT. -/
def execVoidConsignment (number : Nat) (s : State) : Host.Outcome State Fault Refusal :=
  .next (s.hostFrame 0x54 (ownVoidConsignment number))

/-- RELEASE. -/
def execRelease (number : Nat) (s : State) : Host.Outcome State Fault Refusal :=
  .next (s.hostFrame 0x55 (ownRelease number))

/-- READ_CONSIGNMENT. -/
def execReadConsignment (number : Nat) (s : State) : Host.Outcome State Fault Refusal :=
  .next (s.hostFrame 0x56 (ownReadConsignment number))

end Sys2Proof.Machine
end

