-- ==== Sys2Proof/Machine/Engine.lean ====
section
/-! DEFINITION. The Load Authorisation Engine: requests (R84), the fourteen checks at completion (R90 to R98), refusals
(R99), and the issue of a permit (R100 to R103). -/

namespace Sys2Proof.Machine

/-- LOAD_REQUEST delivered: an entry joins the tail, or the request is refused PENDING when the bay has an entry (R84). -/
def deliverLoadRequest (b : Bay) (c : Nat) (s : State) : State :=
  if s.engine.queue.any (fun e => e.bay == b) then s.refuse b c .pending
  else (s.withEngine { s.engine with queue := s.engine.queue ++ [{ bay := b, compartment := c }] }).beginEvaluation

/-- LOAD_REQUEST. -/
def execLoadRequest (bay : Bay) (compartment : Nat) (s : State) : Host.Outcome State Fault Refusal :=
  .next (s.message bay (compartment ≤ 8) false (deliverLoadRequest bay compartment))

/-! ## The checks -/

/-- The records a request is judged on, found through the bay's slot at completion (R90). -/
structure Subject where
  tanker : Tanker
  consignment : Consignment
  line : Line
  driver : Driver
  deriving DecidableEq, Repr

/-- The unit and consignment of bay readiness: the slot is UP with a known unit that has a record and a consignment, the
clamp closed, the probe healthy, and the permit slot empty (R91 check 3). -/
def State.readyBay (s : State) (b : Bay) : Option (Tanker × Consignment) :=
  let slot := s.slot b
  if slot.link = .up ∧ slot.clamp = .closed ∧ slot.probe = .healthy ∧ (s.permitSlot b).permit = none then
    match slot.present with
    | some { tag := tag, known := true } =>
      match s.tanker? tag, s.consignmentOf? tag with
      | some t, some c => some (t, c)
      | _, _ => none
    | _ => none
  else none

/-- The line can take a permit: PLANNED, or STALLED with a cause other than OVERFILL (R92 check 5, R67). -/
def Line.canTakePermit (l : Line) : Bool := l.state == .planned || (l.state == .stalled && l.cause != some .overfill)

/-- Checks 1 to 7 (R91 to R93). A consignment whose driver record is missing fails check 6 (assumption 15). -/
def State.checkRecords (s : State) (b : Bay) (c : Nat) : Except Reason Subject :=
  if s.clock.unset then .error .clock
  else if s.filling.esd then .error .esd
  else
    match s.readyBay b with
    | none => .error .bayNotReady
    | some (t, con) =>
      if con.state ≠ .opened then .error .papersState
      else
        match con.line? c with
        | none => .error .lineState
        | some l =>
          if !l.canTakePermit then .error .lineState
          else if (s.slot b).card ≠ some con.driver then .error .driverMismatch
          else
            match s.driver? con.driver with
            | none => .error .driverMismatch
            | some d =>
              if d.hold then .error .driverHeld
              else .ok { tanker := t, consignment := con, line := l, driver := d }

/-- The driver is endorsed for a product: class 0, or the class among the driver's and the tank endorsement yes
(R95 check 9). -/
def endorsed (d : Driver) (p : Product) : Bool := p.hazard == 0 || (member d.classes p.hazard && d.tank)

/-- The residue check: run only while the line has loaded 0 (R96 check 11). -/
def State.residuePasses (s : State) (j : Subject) : Bool :=
  j.line.loaded > 0 ||
    match j.tanker.compartment? j.line.compartment with
    | some k => s.residueTest k j.line.product
    | none => true

/-- Checks 8 to 13 on a projection formed at check 8: the reason of the first that fails (R94 to R97). -/
def State.checkLoad (s : State) (b : Bay) (j : Subject) (p : Projection) : Option Reason :=
  if p.expiry ≠ .valid then some .expired
  else if !endorsed j.driver (s.product j.line.product) then some .endorsement
  else if !member (s.settingsOf b).groups (s.product j.line.product).group then some .bayProduct
  else if !s.residuePasses j then some .residue
  else if !s.wholeUnitTest j.consignment.lines j.line.compartment j.line.product then some .segregation
  else if p.verdict = .short then some .hours
  else none

/-- The thresholds of a permit (R98). -/
structure Thresholds where
  stopPoint : Nat
  slowdownPoint : Nat
  deriving DecidableEq, Repr

/-- Check 14: the target exceeds the overrun allowance, and the thresholds formed from it (R98). -/
def thresholds? (ordered capacity loaded allowance slowdown : Nat) : Option Thresholds :=
  let target : Int := (min ordered capacity : Nat) - (loaded : Int)
  if target ≤ allowance then none
  else
    let stop := (target - allowance).toNat
    some { stopPoint := stop, slowdownPoint := stop - slowdown }

/-! ## Issue -/

/-- The number after a permit number, from 65,535 back to 1 (R100). -/
def nextNumber (n : Nat) : Nat := if Config.maxPermit ≤ n then 1 else n + 1

/-- The numbers of the live permits (R100). -/
def State.liveNumbers (s : State) : List Nat := Bay.all.filterMap (fun b => ((s.permitSlot b).permit).map (·.number))

/-- The first number from n on that no live permit holds, passing over at most the given number of them (R100). -/
def freeNumber (live : List Nat) : Nat → Nat → Nat
  | 0, n => n
  | fuel + 1, n => if n ∈ live then freeNumber live fuel (nextNumber n) else n

/-- The number the next permit takes: at most twelve permits are live (R100). -/
def State.permitNumber (s : State) : Nat := freeNumber s.liveNumbers 12 s.engine.counter

/-- The permit record of an issue (R101). -/
def State.newPermit (s : State) (j : Subject) (th : Thresholds) (slack : Int) : Permit :=
  { number := s.permitNumber, consignment := j.consignment.number, line := j.line.compartment, base := j.line.loaded,
    stopPoint := th.stopPoint, slowdownPoint := th.slowdownPoint, issueMinute := s.clock.minute, slack := slack }

/-- The issue of a permit at bay b (R100 to R103, R106, R112, R117). -/
def State.issue (b : Bay) (j : Subject) (p : Permit) (s : State) : State :=
  let s := s.withEngine { s.engine with counter := nextNumber p.number }
  let s := s.setPermitSlot b
    { permit := some p, lastReading := none, flow := none, timer := some ((s.settingsOf b).initialTimeout * 1000),
      output := true }
  let s := s.updateLine p.consignment p.line (fun l =>
    { l with state := .authorised, cause := none, lastPermit := some p.number })
  let s := s.dropStallEntry p.consignment p.line
  let s := s.updateSlot b (fun slot => slot.move .loading)
  let s := s.queueCommand b (.permit p.number p.line j.line.product p.stopPoint p.slowdownPoint)
  (s.recomputeGo b).recomputeLock b

/-- Check 14 and the outcome, once checks 8 to 13 have passed (R97, R98). -/
def State.authorise (b : Bay) (c : Nat) (j : Subject) (p : Projection) (s : State) : State :=
  let s := if p.verdict = .tight then s.raiseGantry .hoursTight else s
  let settings := s.settingsOf b
  match thresholds? j.line.ordered (s.capacity j.tanker.number j.line.compartment) j.line.loaded settings.allowance
      settings.slowdown with
  | none => s.refuse b c .residual
  | some th => s.issue b j (s.newPermit j th p.minSlack)

/-- The checks of a completion and their outcome, the projection stored as soon as it is formed (R90, R94, R99). -/
def State.judge (b : Bay) (c : Nat) (s : State) : State :=
  match s.checkRecords b c with
  | .error r => s.refuse b c r
  | .ok j =>
    let p := s.projectionWith j.driver j.consignment.plan j.consignment
    let s := s.storeProjection j.driver.card p
    match s.checkLoad b j p with
    | some r => s.refuse b c r
    | none => s.authorise b c j p

/-- A completion's step once judged: the entry leaves the queue, the holds end, the next entry begins, then a pick (R85,
R99, R102). -/
def State.completed (b : Bay) (s : State) : State :=
  ((s.withEngine { s.engine with queue := s.engine.queue.filter (fun e => e.bay != b) }).endEvaluation).pick

/-- EVALUATION_COMPLETION of an evaluation whose entry has not been dropped (R90). -/
def execEvaluationCompletion (s : State) : Host.Outcome State Fault Refusal :=
  .next (match s.engine.evaluation with
    | some e => if e.dropped then s else (s.judge e.bay e.compartment).completed e.bay
    | none => s)

/-- DROPPED_EVALUATION_COMPLETION: the holds end and the next entry begins; no check is run (R89). -/
def execDroppedEvaluationCompletion (s : State) : Host.Outcome State Fault Refusal :=
  .next (match s.engine.evaluation with
    | some e => if e.dropped then s.endEvaluation.pick else s
    | none => s)

end Sys2Proof.Machine
end

