-- ==== Sys2Proof/Machine/Supervision.lean ====
section
/-! DEFINITION. Filling Supervision: progress reports and late reports (R107 to R111), timers (R112, R113), FINISH (R114),
STOP and METER_FAULT (R118), STOP_BAY (R119), and the emergency shutdown (R120, R121). -/

namespace Sys2Proof.Machine

/-- The loaded volume after a sum of base and reading: raised to it when it is greater, capped at 65,535, never lowered
(R66, R108). -/
def raised (loaded sum : Nat) : Nat := if loaded < sum then min sum Config.maxReading else loaded

/-- A line's loaded volume raised to a sum, and the compartment's drained field set to no when it rises from 0
(R108, R42). -/
def State.raiseLoaded (c : Consignment) (l : Line) (sum : Nat) (s : State) : State :=
  let s := s.updateLine c.number l.compartment (fun l => { l with loaded := raised l.loaded sum })
  if l.loaded = 0 ∧ 0 < sum then s.setDrained c.tanker l.compartment false else s

/-- A line made FILLED, its permit ended, and the complete test applied in the step that ends the line (R110, R114,
R75). -/
def State.fillLine (b : Bay) (p : Permit) (close : Option Nat) (s : State) : State :=
  let s := s.updateLine p.consignment p.line (fun l => { l with state := .filled, cause := none })
  ((s.completeTest p.consignment).endPermit b .occupied close).raiseBay b .permitEnded

/-- The record of a report in the permit slot: last reading, flow indication, and the timer restarted (R108, R112). -/
def State.recordReport (b : Bay) (m : Nat) (flow : Flow) (s : State) : State :=
  s.setPermitSlot b { s.permitSlot b with
    lastReading := some m, flow := some flow, timer := some ((s.settingsOf b).progressTimeout * 1000) }

/-- A report for bay b's live permit (R108 to R110). -/
def State.liveReport (b : Bay) (p : Permit) (m : Nat) (flow : Flow) (s : State) : State :=
  let s := s.recordReport b m flow
  match s.consignment? p.consignment with
  | none => s
  | some c =>
    match c.line? p.line with
    | none => s
    | some l =>
      let sum := p.base + m
      let tolerance := s.store.settings.limits.tolerance
      let s := s.raiseLoaded c l sum
      let s := s.updateLine p.consignment p.line
        (fun l => if l.state = .authorised then { l with state := .filling } else l)
      if s.capacity c.tanker p.line < sum then (s.stall b .overfill .occupied).raiseBay b .overfill
      else if l.ordered + tolerance < sum then (s.fillLine b p (some p.number)).raiseBay b .overrun
      else s

/-- The stall table entry a report from bay b matches: an entry for the consignment of the known unit at the bay that
carries the number; of two, the one created later (R107). -/
def State.lateEntry (s : State) (b : Bay) (number : Nat) : Option StallEntry :=
  match (s.slot b).present with
  | some { tag := tag, known := true } =>
    match s.consignmentOf? tag with
    | some c => (s.filling.stallTable.filter (fun e => e.consignment == c.number && e.permit == number)).getLast?
    | none => none
  | _ => none

/-- A late report (R111). -/
def State.lateReport (b : Bay) (e : StallEntry) (m : Nat) (s : State) : State :=
  match s.consignment? e.consignment with
  | none => s
  | some c =>
    match c.line? e.compartment with
    | none => s
    | some l =>
      let sum := e.base + m
      let s := s.raiseLoaded c l sum
      if s.capacity c.tanker e.compartment < sum then
        (s.updateLine e.consignment e.compartment (fun l => { l with cause := some .overfill })).raiseBay b .overfill
      else if l.ordered + s.store.settings.limits.tolerance < sum then s.raiseBay b .overrun
      else s

/-- PROGRESS delivered: matched to the live permit first, then to a stall table entry, else ignored (R107). -/
def deliverProgress (b : Bay) (number m : Nat) (flow : Flow) (s : State) : State :=
  let late := match s.lateEntry b number with
    | some e => s.lateReport b e m
    | none => s
  match (s.permitSlot b).permit with
  | some p => if p.number = number then s.liveReport b p m flow else late
  | none => late

/-- FINISH for bay b's live permit (R114). -/
def State.finishPermit (b : Bay) (p : Permit) (f : Nat) (s : State) : State :=
  match s.consignment? p.consignment with
  | none => s
  | some c =>
    match c.line? p.line with
    | none => s
    | some l =>
      let sum := p.base + f
      let tolerance := s.store.settings.limits.tolerance
      let loaded := raised l.loaded sum
      let s := (s.raiseLoaded c l sum).setPermitSlot b { s.permitSlot b with lastReading := some f }
      let stalled (cause : Cause) : State :=
        let s := s.updateLine p.consignment p.line (fun l => { l with state := .stalled, cause := some cause })
        let s := s.addStallEntry { consignment := p.consignment, compartment := p.line, permit := p.number, base := p.base }
        (s.endPermit b .occupied none).raiseBay b .permitEnded
      if s.capacity c.tanker p.line < sum then (stalled .overfill).raiseBay b .overfill
      else if l.ordered ≤ loaded + tolerance then
        let s := s.fillLine b p none
        if l.ordered + tolerance < sum then s.raiseBay b .overrun else s
      else stalled .shortFinish

/-- FINISH delivered: ignored unless it names the bay's live permit (R114). -/
def deliverFinish (b : Bay) (number f : Nat) (s : State) : State :=
  match (s.permitSlot b).permit with
  | some p => if p.number = number then s.finishPermit b p f else s
  | none => s

/-- STOP or METER_FAULT delivered: a live permit is stalled, and STOPPED is raised (R118). -/
def deliverStop (b : Bay) (cause : Cause) (s : State) : State := (s.stall b cause .occupied).raiseBay b .stopped

/-- The loaded volume of a permit's line; 0 where there is none (assumption 15). -/
def State.permitLoaded (s : State) (p : Permit) : Nat := ((s.line? p.consignment p.line).map (·.loaded)).getD 0

/-- STOP_BAY (R119). -/
def ownStopBay (bay : Nat) (s : State) : State × Reply :=
  match Bay.ofNat? bay with
  | none => refused .badValue s
  | some b =>
    match (s.permitSlot b).permit with
    | none => refused .wrongState s
    | some p => okWith (u16 p.number ++ u8 p.line ++ u16 (s.permitLoaded p)) (s.stall b .hostStop .occupied).pick

/-- PROGRESS. -/
def execProgress (bay : Bay) (permit reading : Nat) (flow : Flow) (s : State) : Host.Outcome State Fault Refusal :=
  .next (s.message bay (permit ≤ 65535 && reading ≤ Config.maxReading) false (deliverProgress bay permit reading flow))

/-- FINISH. -/
def execFinish (bay : Bay) (permit reading : Nat) (s : State) : Host.Outcome State Fault Refusal :=
  .next (s.message bay (permit ≤ 65535 && reading ≤ Config.maxReading) false (deliverFinish bay permit reading))

/-- PROGRESS_TIMEOUT: bay b's running timer runs out, and its live permit is stalled TIMEOUT (R113). -/
def execProgressTimeout (bay : Bay) (s : State) : Host.Outcome State Fault Refusal :=
  .next (if (s.permitSlot bay).timer.isSome then (s.stall bay .timeout .occupied).pick else s)

/-- STOP. -/
def execStop (bay : Bay) (s : State) : Host.Outcome State Fault Refusal :=
  .next (s.message bay true false (deliverStop bay .stopButton))

/-- METER_FAULT. -/
def execMeterFault (bay : Bay) (s : State) : Host.Outcome State Fault Refusal :=
  .next (s.message bay true false (deliverStop bay .meterFault))

/-- STOP_BAY. -/
def execStopBay (bay : Nat) (s : State) : Host.Outcome State Fault Refusal := .next (s.hostFrame 0x62 (ownStopBay bay))

/-- The ESD state follows the input, and each change raises ESD_CHANGED (R120, R121). -/
def State.setEsd (v : Bool) (s : State) : State :=
  (s.withFilling { s.filling with esd := v }).raiseGantry .esdChanged

/-- The ESD input changes to asserted: every live permit is stalled ESD, bays in ascending number (R120). -/
def execEsdAssertion (s : State) : Host.Outcome State Fault Refusal :=
  .next (if s.filling.esd then s
    else ((Bay.all.foldl (fun s b => s.stall b .esd .occupied) s).setEsd true).pick)

/-- The ESD input changes to clear; nothing restarts (R121). -/
def execEsdRelease (s : State) : Host.Outcome State Fault Refusal := .next (if s.filling.esd then s.setEsd false else s)

end Sys2Proof.Machine
end

