-- ==== Sys2Proof/Machine/BaySlots.lean ====
section
/-! DEFINITION. Bay Slots: the station's messages (R123 to R129), the hardwired inputs (R130, R131), and the host's commands on
a bay (R133, R135 to R138). -/

namespace Sys2Proof.Machine

/-! ## Joining -/

/-- The three values a LIMITS carries (R123, R161). -/
def State.limitsCommand (s : State) (b : Bay) : BusCommand :=
  let x := s.settingsOf b
  .limits x.flow x.allowance x.slowdown

/-- A HELLO taken from OFFLINE: a waiting JOIN_CALL is withdrawn (R159), the slot becomes VACANT, LIMITS and LAMP (OFF, OFF)
are queued and STATION_CHANGED raised (R123). -/
def State.join (b : Bay) (s : State) : State :=
  let s := s.withBus { s.bus with
    outbound := s.bus.outbound.filter (fun w => !(w.bay == b && w.command == .joinCall)) }
  let s := s.updateSlot b (fun slot => { slot.move .vacant with go := .off, call := .off })
  ((s.queueCommand b (s.limitsCommand b)).queueLamp b false).raiseBay b .stationChanged

/-- HELLO delivered: ignored from a disabled bay; while the slot is UP it is first a restart of the station (R123). -/
def deliverHello (b : Bay) (s : State) : State :=
  if (s.settingsOf b).enabled then
    if (s.slot b).link = .up then (s.goOffline b .station).join b else s.join b
  else s

/-! ## Vehicles -/

/-- The lookup of a tag reported present, and its outcome (R125, R39). -/
def State.lookupTag (b : Bay) (tag : Nat) (s : State) : State :=
  let unknown := s.updateSlot b (fun slot => { slot with present := some ⟨tag, false⟩ })
  let s := match s.tanker? tag with
    | some t =>
      if t.bay = none ∨ t.bay = some b then
        ((s.updateSlot b (fun slot => { slot with present := some ⟨tag, true⟩ })).updateTanker tag
          (fun t => { t with bay := some b })).recomputeGo b
      else unknown.raiseBay b .vehicleConflict
    | none => unknown.refuse b 0 .unknownUnit
  s.raiseBay b .vehicleChanged

/-- A vehicle arrives: the slot becomes OCCUPIED and the tag is looked up (R125). -/
def State.arrive (b : Bay) (tag : Nat) (s : State) : State :=
  (s.updateSlot b (fun slot => slot.move .occupied)).lookupTag b tag

/-- A departure: a live permit is stalled VEHICLE_LEFT, the unit's position, the tag and the card go, and the slot becomes
VACANT (R127). -/
def State.depart (b : Bay) (s : State) : State :=
  let s := (s.stall b .vehicleLeft .vacant).clearPosition b
  let s := s.updateSlot b (fun slot => { slot.move .vacant with present := none, card := none })
  ((s.recomputeGo b).recomputeLock b).raiseBay b .vehicleChanged

/-- VEHICLE present delivered (R125, R126). -/
def deliverVehiclePresent (b : Bay) (tag : Nat) (s : State) : State :=
  match (s.slot b).state with
  | .offline => s
  | .vacant => s.arrive b tag
  | .occupied | .loading =>
    match (s.slot b).present with
    | some p =>
      if p.tag = tag then (if p.known then s else s.lookupTag b tag)
      else (s.depart b).arrive b tag
    | none => (s.depart b).arrive b tag

/-- VEHICLE absent delivered (R127). -/
def deliverVehicleAbsent (b : Bay) (s : State) : State :=
  match (s.slot b).state with
  | .offline | .vacant => s
  | .occupied | .loading => s.depart b

/-! ## Cards, DRAIN, CALL -/

/-- A driver with the card exists and is ON_SITE or ASSIGNED (R16, R128). -/
def State.acceptsCard (s : State) (card : Nat) : Bool := (s.driver? card).any (fun d => d.state != .dispatched)

/-- CARD delivered (R128). -/
def deliverCard (b : Bay) (card : Nat) (s : State) : State :=
  if s.acceptsCard card then (s.updateSlot b (fun slot => { slot with card := some card })).recomputeGo b
  else ((s.updateSlot b (fun slot => { slot with card := none })).refuse b 0 .unknownCard).recomputeGo b

/-- DRAIN delivered: drained is set to yes when the slot has a known unit, the compartment exists, the unit is IDLE or
PLANNED, and nothing of this load is in the compartment (R129, R41). -/
def deliverDrain (b : Bay) (c : Nat) (s : State) : State :=
  match (s.slot b).present, s.tankerAt? b with
  | some { tag := _, known := true }, some t =>
    if inRange 1 t.compartments.length c ∧ t.state ≠ .released ∧ s.loadedOn t.number c = false then
      s.setDrained t.number c true
    else s
  | _, _ => s

/-- HELLO. -/
def execHello (bay : Bay) (s : State) : Host.Outcome State Fault Refusal :=
  .next (s.message bay true true (deliverHello bay))

/-- VEHICLE with the indication present. -/
def execVehiclePresent (bay : Bay) (tag : Nat) (s : State) : Host.Outcome State Fault Refusal :=
  .next (s.message bay (tag ≤ Config.maxTanker) false (deliverVehiclePresent bay tag))

/-- VEHICLE with the indication absent. -/
def execVehicleAbsent (bay : Bay) (s : State) : Host.Outcome State Fault Refusal :=
  .next (s.message bay true false (deliverVehicleAbsent bay))

/-- CARD. -/
def execCard (bay : Bay) (number : Nat) (s : State) : Host.Outcome State Fault Refusal :=
  .next (s.message bay (number ≤ 4294967295) false (deliverCard bay number))

/-- DRAIN. -/
def execDrain (bay : Bay) (compartment : Nat) (s : State) : Host.Outcome State Fault Refusal :=
  .next (s.message bay (compartment ≤ 8) false (deliverDrain bay compartment))

/-- CALL (R129). -/
def execCall (bay : Bay) (s : State) : Host.Outcome State Fault Refusal :=
  .next (s.message bay true false (fun s => s.raiseBay bay .call))

/-! ## Hardwired inputs -/

/-- A change of the CLAMP input (R130). -/
def execClampChange (bay : Bay) (reading : Clamp) (s : State) : Host.Outcome State Fault Refusal :=
  .next (if (s.slot bay).clamp = reading then s
    else
      let s := (s.updateSlot bay (fun slot => { slot with clamp := reading })).raiseBay bay .clampChanged
      let s := if reading = .opened then s.stall bay .clamp .occupied else s
      (s.recomputeGo bay).pick)

/-- A change of the PROBE input (R131). -/
def execProbeChange (bay : Bay) (reading : Probe) (s : State) : Host.Outcome State Fault Refusal :=
  .next (if (s.slot bay).probe = reading then s
    else
      let s := s.updateSlot bay (fun slot => { slot with probe := reading })
      let s := if reading = .tripped then (s.raiseBay bay .probeTripped).stall bay .probe .occupied else s
      (s.recomputeGo bay).pick)

/-! ## The host's commands on a bay -/

/-- The settings of a bay in the working copy replaced. -/
def State.setBaySettings (b : Bay) (x : BaySettings) (s : State) : State :=
  s.withStore { s.store with settings := { s.store.settings with bays := s.store.settings.bays.put b x } }

/-- The settings SET_BAY stores: those given, brought into range, but with the allowance and slowdown kept while a live
permit is held (R135, R104). -/
def storedBay (old : BaySettings) (kept : Bool) (args : BayArgs) : BaySettings :=
  let new := clampedBay args
  if kept then { new with allowance := old.allowance, slowdown := old.slowdown } else new

/-- What a SET_BAY does to the bay once written (R136). -/
def State.actOnBay (b : Bay) (old new : BaySettings) (s : State) : State :=
  if old.enabled ∧ ¬ new.enabled then s.goOffline b .station
  else if ¬ old.enabled ∧ new.enabled then s.queueCommand b .joinCall
  else if old.enabled ∧ (s.slot b).link = .up
      ∧ (new.flow ≠ old.flow ∨ new.allowance ≠ old.allowance ∨ new.slowdown ≠ old.slowdown) then
    s.queueCommand b (.limits new.flow new.allowance new.slowdown)
  else s

/-- SET_BAY (R135, R136). -/
def ownSetBay (bay : Nat) (args : BayArgs) (s : State) : State × Reply :=
  match Bay.ofNat? bay with
  | none => refused .badValue s
  | some b =>
    if s.saving then refused .busy s
    else
      let old := s.settingsOf b
      let kept := (s.permitSlot b).permit.isSome
      let new := storedBay old kept args
      (((s.setBaySettings b new).actOnBay b old new).pick,
        ⟨if bayInRange args kept then .ok else .clamped, baySettingsBytes new ++ yn kept⟩)

/-- GET_BAY (R136). -/
def ownGetBay (bay : Nat) (s : State) : State × Reply :=
  match Bay.ofNat? bay with
  | none => refused .badValue s
  | some b => okWith (baySettingsBytes (s.settingsOf b)) s

/-- BAY_LAMP (R133). -/
def ownBayLamp (bay call : Nat) (s : State) : State × Reply :=
  match Bay.ofNat? bay, callOf? call with
  | some b, some v =>
    if (s.slot b).state = .offline then refused .wrongState s
    else if Config.maxWaiting ≤ (s.waitingOf b).length ∧ s.lampWaits b = false then
      refused .full (s.raiseGantry .queueFull)
    else okay ((s.updateSlot b (fun slot => { slot with call := v })).queueLamp b true).pick
  | _, _ => refused .badValue s

/-- BAY_RESET (R137). -/
def ownBayReset (bay : Nat) (s : State) : State × Reply :=
  match Bay.ofNat? bay with
  | none => refused .badValue s
  | some b =>
    if (s.settingsOf b).enabled then okay ((s.goOffline b .bayReset).queueCommand b .joinCall).pick
    else refused .wrongState s

/-- BAY_STATUS (R138). -/
def ownBayStatus (bay : Nat) (s : State) : State × Reply :=
  match Bay.ofNat? bay with
  | none => refused .badValue s
  | some b =>
    let permit := s.permitSlot b
    okWith (slotBytes (s.slot b) permit ((permit.permit.map s.permitLoaded).getD 0)) s

/-- SET_BAY. -/
def execSetBay (bay : Nat) (args : BayArgs) (s : State) : Host.Outcome State Fault Refusal :=
  .next (s.hostFrame 0x1A (ownSetBay bay args))

/-- GET_BAY. -/
def execGetBay (bay : Nat) (s : State) : Host.Outcome State Fault Refusal := .next (s.hostFrame 0x1B (ownGetBay bay))

/-- BAY_STATUS. -/
def execBayStatus (bay : Nat) (s : State) : Host.Outcome State Fault Refusal :=
  .next (s.hostFrame 0x60 (ownBayStatus bay))

/-- BAY_LAMP. -/
def execBayLamp (bay call : Nat) (s : State) : Host.Outcome State Fault Refusal :=
  .next (s.hostFrame 0x61 (ownBayLamp bay call))

/-- BAY_RESET. -/
def execBayReset (bay : Nat) (s : State) : Host.Outcome State Fault Refusal := .next (s.hostFrame 0x63 (ownBayReset bay))

end Sys2Proof.Machine
end

