-- ==== Sys2Proof/Machine/GantryBus.lean ====
section
/-! DEFINITION. The Gantry Bus Controller's events (R149, R152, R153, R156 to R158). -/

namespace Sys2Proof.Machine

/-- The pending set of a class with one bay's membership set. -/
def Bus.setPending (bus : Bus) (cls : RequestClass) (b : Bay) (v : Bool) : Bus :=
  match cls with
  | .urgent => { bus with urgent := bus.urgent.put b v }
  | .routine => { bus with routine := bus.routine.put b v }

/-- REQUEST_RAISED: an enabled bay joins the pending set of the class; a disabled bay's raise is ignored (R149). -/
def execRequestRaised (bay : Bay) (cls : RequestClass) (s : State) : Host.Outcome State Fault Refusal :=
  .next (if (s.settingsOf bay).enabled then (s.withBus (s.bus.setPending cls bay true)).pick else s)

/-- TAKE: the bay named in a grant record in phase GRANTED leaves the pending set of the class and holds the bus, with the
grant timeout for its message; any other take is ignored (R152). -/
def execTake (bay : Bay) (s : State) : Host.Outcome State Fault Refusal :=
  .next (match s.bus.grant with
    | some g =>
      if g.bay = bay ∧ g.phase = .granted then
        s.withBus { s.bus.setPending g.cls bay false with
          grant := some { g with phase := .held, timer := Config.grantTimeout } }
      else s
    | none => s)

/-- GRANT_EXPIRY: a grant no take answered is removed, its request dropped, and GRANT_EXPIRED raised (R153). -/
def execGrantExpiry (s : State) : Host.Outcome State Fault Refusal :=
  .next (match s.bus.grant with
    | some g =>
      if g.phase = .granted then
        ((s.withBus { s.bus.setPending g.cls g.bay false with grant := none }).raiseGantry .grantExpired).pick
      else s
    | none => s)

/-- HOLD_EXPIRY: the holder's message is not whole in time; the hold ends and GRANT_EXPIRED is raised (R152). -/
def execHoldExpiry (s : State) : Host.Outcome State Fault Refusal :=
  .next (match s.bus.grant with
    | some g =>
      if g.phase = .held then ((s.withBus { s.bus with grant := none }).raiseGantry .grantExpired).pick else s
    | none => s)

/-- MESSAGE_DISCARDED: the holder's message fails the frame check or has a field out of range; the hold ends at its end
(R152, R160). -/
def execMessageDiscarded (s : State) : Host.Outcome State Fault Refusal :=
  .next (match s.bus.grant with
    | some g => if g.phase = .held then (s.withBus { s.bus with grant := none }).pick else s
    | none => s)

/-- The outstanding command a finished transmission leaves: none for a JOIN_CALL or a forgotten one (R156, R148). -/
def Transmission.outstanding? (t : Transmission) : Option Outstanding :=
  if t.forgotten then none
  else t.number.map (fun n => { command := t.command, number := n, timer := Config.ackTimeout })

/-- TRANSMISSION_END: the bus is free, and the command becomes the bay's outstanding one with its acknowledgement timer
started (R156). -/
def execTransmissionEnd (s : State) : Host.Outcome State Fault Refusal :=
  .next (match s.bus.transmission with
    | some t =>
      let bus := match t.outstanding? with
        | some o => { s.bus with transmission := none, outstanding := s.bus.outstanding.put t.bay (some o) }
        | none => { s.bus with transmission := none }
      (s.withBus bus).pick
    | none => s)

/-- STATION_LOST: the acknowledgement timer of a bay's outstanding command runs out, and its slot goes OFFLINE with cause
STATION (R158). -/
def execStationLost (bay : Bay) (s : State) : Host.Outcome State Fault Refusal :=
  .next (if (s.bus.outstanding.look bay).isSome then (s.goOffline bay .station).pick else s)

/-- ACK delivered: when its number is that of the bay's outstanding command the command is cleared, the lock state recorded
and tested, and COMMAND_DONE raised for a LAMP with the host's mark; otherwise it is ignored (R157, R134). -/
def deliverAck (b : Bay) (number : Nat) (lock : LockState) (s : State) : State :=
  match s.bus.outstanding.look b with
  | some o =>
    if o.number = number then
      let s := s.withBus { s.bus with outstanding := s.bus.outstanding.put b none }
      let s := (s.updateSlot b (fun slot => { slot with lockReported := lock })).testLock b
      if o.command.isMarkedLamp then s.raiseBay b .commandDone else s
    else s
  | none => s

/-- ACK. -/
def execAck (bay : Bay) (number : Nat) (lock : LockState) (s : State) : Host.Outcome State Fault Refusal :=
  .next (s.message bay (number ≤ 255) false (deliverAck bay number lock))

end Sys2Proof.Machine
end

