-- ==== Sys2Proof/Machine/SettingsStore.lean ====
section
/-! DEFINITION. The Settings Store: SAVE_SETTINGS and the stages of a save (R177, R178). -/

namespace Sys2Proof.Machine

/-- SAVE_SETTINGS: the working copy is copied, ERASING is entered, and the image is bad from this step (R177). -/
def ownSaveSettings (s : State) : State × Reply :=
  if s.saving then refused .busy s
  else okay (s.withStore { s.store with
    image := { s.store.image with checksumMatches := false }, save := .erasing, copy := some s.store.settings })

/-- SAVE_SETTINGS. -/
def execSaveSettings (s : State) : Host.Outcome State Fault Refusal := .next (s.hostFrame 0x28 ownSaveSettings)

/-- ERASE_COMPLETE: the image has been erased, and the store enters WRITING (R178). -/
def execEraseComplete (s : State) : Host.Outcome State Fault Refusal :=
  .next (if s.store.save = .erasing then
    s.withStore { s.store with image := { contents := none, checksumMatches := false }, save := .writing }
  else s)

/-- WRITE_COMPLETE: the saved copy and, last, its checksum have been written, and the store enters VERIFYING (R178).
Whether the medium's checksum matches its contents is the event's own (assumption 11). -/
def execWriteComplete (checksumMatches : Bool) (s : State) : Host.Outcome State Fault Refusal :=
  .next (if s.store.save = .writing then
    s.withStore { s.store with
      image := { contents := s.store.copy, checksumMatches := checksumMatches }, save := .verifying }
  else s)

/-- VERIFY_COMPLETE: the read-back agrees with the saved copy and the save completes with SAVE_DONE, the image good; or an
item differs, and it fails with the image bad and SAVE_FAILED (R178). An image whose checksum does not match cannot agree
(assumption 11). -/
def execVerifyComplete (agrees : Bool) (s : State) : Host.Outcome State Fault Refusal :=
  .next (if s.store.save = .verifying then
    let good := agrees && s.store.image.checksumMatches
    let s := s.withStore { s.store with
      image := { s.store.image with checksumMatches := good }, save := .idle, copy := none }
    s.raiseGantry (if good then .saveDone else .saveFailed)
  else s)

end Sys2Proof.Machine
end

