-- ==== Sys2Proof/Machine/SiteClock.lean ====
section
/-! DEFINITION. The Site Clock's commands and its minute (R2 to R4). -/

namespace Sys2Proof.Machine

/-- SET_CLOCK (R3): an accepted set removes UNSET and starts a fresh minute (R2). -/
def ownSetClock (minute : Nat) (s : State) : State × Reply :=
  if Config.maxMinute < minute then refused .badValue s
  else if minute < s.clock.minute ∧ s.drivers ≠ [] then refused .wrongState s
  else okay (s.withClock { minute := minute, unset := false, counted := 0 })

/-- GET_CLOCK (R4). -/
def ownGetClock (s : State) : State × Reply :=
  okWith (u24 s.clock.minute ++ u16 (s.clock.minute / 1440) ++ yn s.clock.unset) s

/-- SET_CLOCK. -/
def execSetClock (minute : Nat) (s : State) : Host.Outcome State Fault Refusal :=
  .next (s.hostFrame 0x10 (ownSetClock minute))

/-- GET_CLOCK. -/
def execGetClock (s : State) : Host.Outcome State Fault Refusal := .next (s.hostFrame 0x11 ownGetClock)

/-- The end of a minute of the part's timebase: a set clock advances by one, a saturated clock stays, an UNSET clock stays
at 0 (R1, R2). -/
def execClockMinuteTick (s : State) : Host.Outcome State Fault Refusal :=
  .next (if s.clock.unset then s
    else s.withClock { s.clock with minute := min Config.maxMinute (s.clock.minute + 1), counted := 0 })

end Sys2Proof.Machine
end

