-- ==== Sys2Proof/Machine/OfficePort.lean ====
section
/-! DEFINITION. The Office Port: the bytes and frames it receives (R163 to R165), the owner of each host command (R166),
IDENTIFY and RESET (R167), the end of a response, and the starts (R176, R167). -/

namespace Sys2Proof.Machine

/-! ## IDENTIFY, RESET and the starts -/

/-- IDENTIFY (R167). -/
def ownIdentify (s : State) : State × Reply :=
  okWith (u16 Config.partCode ++ [Config.revision] ++ u8 s.startKind.code) s

/-- RESET with kind 0 or 1: answered OK, the reset arranged for the end of the response (R167). -/
def ownReset (kind : StartKind) (s : State) : State × Reply :=
  okay (s.withPort { s.port with resetArranged := some kind })

/-- IDENTIFY. -/
def execIdentify (s : State) : Host.Outcome State Fault Refusal := .next (s.hostFrame 0x01 ownIdentify)

/-- RESET with kind 0. -/
def execResetSoft (s : State) : Host.Outcome State Fault Refusal := .next (s.hostFrame 0x02 (ownReset .soft))

/-- RESET with kind 1. -/
def execResetHard (s : State) : Host.Outcome State Fault Refusal := .next (s.hostFrame 0x02 (ownReset .hard))

/-- The inputs at the levels they have when power is applied (R122, R121). -/
def State.setInputs (inputs : InputLevels) (s : State) : State :=
  let s := s.withSlots (perBay (fun b =>
    { s.slot b with clamp := inputs.clamp.look b, probe := inputs.probe.look b }))
  s.withFilling { s.filling with esd := inputs.esd }

/-- POWER_ON: power is applied with the inputs at the levels given (R176; assumption 9). -/
def execPowerOn (inputs : InputLevels) (s : State) : Host.Outcome State Fault Refusal :=
  .next ((s.setInputs inputs).restart .powerOn)

/-- The reset a RESET has arranged takes effect: a soft one, or a hard one, which acts as power-on (R167, R176, R179). -/
def State.takeReset (kind : StartKind) (s : State) : State :=
  match kind with
  | .soft => s.softRestart
  | .hard | .powerOn => s.restart .hard

/-- The OK of a RESET of this kind is the one response still being sent, so its last byte is what the reset waits for
(R167). -/
def State.resetDue (kind : StartKind) (s : State) : Bool :=
  s.port.executing && s.port.resetArranged == some kind && s.port.sending.tail.isEmpty

/-- SOFT_RESET: the soft reset a RESET has arranged takes effect as the last byte of its OK has been sent; with none due
nothing happens (R167, R179; assumption 8). -/
def execSoftReset (s : State) : Host.Outcome State Fault Refusal :=
  .next (if s.resetDue .soft then s.takeReset .soft else s)

/-- HARD_RESET: the hard reset a RESET has arranged takes effect as the last byte of its OK has been sent; with none due
nothing happens (R167, R176; assumption 8). -/
def execHardReset (s : State) : Host.Outcome State Fault Refusal :=
  .next (if s.resetDue .hard then s.takeReset .hard else s)

/-! ## Frames -/

/-- The owner of a host command: its checks and effects in one step (R164, R166). None for a row that is not a host
command. -/
def ownerOf : Instr → Option (State → State × Reply)
  | .identify => some ownIdentify
  | .resetSoft => some (ownReset .soft)
  | .resetHard => some (ownReset .hard)
  | .setClock minute => some (ownSetClock minute)
  | .getClock => some ownGetClock
  | .setLimits args => some (ownSetLimits args)
  | .getLimits => some ownGetLimits
  | .setBay bay args => some (ownSetBay bay args)
  | .getBay bay => some (ownGetBay bay)
  | .setProduct code args => some (ownSetProduct code args)
  | .getProduct code => some (ownGetProduct code)
  | .setSegregation group row => some (ownSetSegregation group row)
  | .getSegregation group => some (ownGetSegregation group)
  | .saveSettings => some ownSaveSettings
  | .admitDriver card args => some (ownAdmitDriver card args)
  | .updateSummary card accounts => some (ownUpdateSummary card accounts)
  | .holdDriver card => some (setHold card true)
  | .freeDriver card => some (setHold card false)
  | .retireDriver card => some (ownRetireDriver card)
  | .readDriver card => some (ownReadDriver card)
  | .listDrivers page => some (ownListDrivers page)
  | .project card plan context => some (ownProject card plan context)
  | .admitUnit number count maxPayload compartments => some (ownAdmitUnit number count maxPayload compartments)
  | .markClean number compartment => some (ownMarkClean number compartment)
  | .retireUnit number => some (ownRetireUnit number)
  | .readUnit number => some (ownReadUnit number)
  | .openConsignment args => some (ownOpenConsignment args)
  | .amendLine number compartment ordered =>
      some (onLine number compartment (inRange 1 20000 ordered) (amend ordered))
  | .cancelLine number compartment => some (onLine number compartment true cancel)
  | .closeShort number compartment => some (onLine number compartment true closeLine)
  | .voidConsignment number => some (ownVoidConsignment number)
  | .release number => some (ownRelease number)
  | .readConsignment number => some (ownReadConsignment number)
  | .bayStatus bay => some (ownBayStatus bay)
  | .bayLamp bay call => some (ownBayLamp bay call)
  | .stopBay bay => some (ownStopBay bay)
  | .bayReset bay => some (ownBayReset bay)
  | .readAttention => some ownReadAttention
  | .ackAttention entry mask => some (ownAckAttention entry mask)
  | .setAttentionEnable bayKinds gantryKinds => some (ownSetAttentionEnable bayKinds gantryKinds)
  | .powerOn _ | .softReset | .hardReset | .clockMinuteTick | .eraseComplete | .writeComplete _ | .verifyComplete _
  | .unknownCommand _ _ _ | .frameTimeout | .framingError | .responseSent | .requestRaised _ _ | .take _
  | .grantExpiry | .holdExpiry | .messageDiscarded | .transmissionEnd | .stationLost _ | .hello _
  | .vehiclePresent _ _ | .vehicleAbsent _ | .card _ _ | .drain _ _ | .call _ | .loadRequest _ _
  | .evaluationCompletion | .droppedEvaluationCompletion | .progress _ _ _ _ | .finish _ _ _ | .progressTimeout _
  | .stop _ | .meterFault _ | .ack _ _ _ | .clampChange _ _ | .probeChange _ _ | .esdAssertion | .esdRelease
  | .frameMark | .length _ _ => none

/-- The sum of a command frame's code, length and payload (R162). -/
def frameSum (code : Byte) (payload : List Byte) : BitVec 16 :=
  byteSum (code :: BitVec.ofNat 8 payload.length :: payload)

/-- A whole frame: the port's three checks in order, and the command handed to its owner when all pass (R164). -/
def State.wholeFrame (code : Byte) (payload : List Byte) (sum : BitVec 16) (s : State) : State :=
  if sum ≠ frameSum code payload then s.portFails code .checksum
  else
    match decodeFrame code payload with
    | .unknownCode => s.portFails code .unknownCommand
    | .badLength => s.portFails code .length
    | .badResetKind => s.execute code (refused .badValue)
    | .command i =>
      match ownerOf i with
      | some owner => s.execute code owner
      | none => s

/-- The port RECEIVING with the bytes of a frame so far. -/
def State.receiving (buffer : List Byte) (timer : Nat) (s : State) : State :=
  s.withPort { s.port with rx := .receiving, buffer := buffer, frameTimer := some timer }

/-- The frame timer's time left; a frame that starts now has all of it (R163). -/
def State.frameTime (s : State) : Nat := s.port.frameTimer.getD Config.frameTimeout

/-- A byte at the office port (R163, R165): while a command executes a mark sets the overrun mark and other bytes are
discarded; while HUNTING a mark starts a frame; while RECEIVING the byte is the code, the length, payload or sum. -/
def State.receiveByte (x : Byte) (s : State) : State :=
  if s.port.executing then (if x = Config.commandMark then s.markOverrun else s)
  else
    match s.port.rx with
    | .hunting => if x = Config.commandMark then s.receiving [] Config.frameTimeout else s
    | .receiving =>
      let buffer := s.port.buffer ++ [x]
      match buffer with
      | code :: len :: rest =>
        if Config.maxPayload < len.toNat then s.portFails code .length
        else if rest.length = len.toNat + 2 then
          s.wholeFrame code (rest.take len.toNat) (BitVec.ofNat 16 (leNat (rest.drop len.toNat)))
        else s.receiving buffer s.frameTime
      | _ => s.receiving buffer s.frameTime

/-- FRAME_MARK: a byte 0xC6 arrives (R163, R165). -/
def execFrameMark (s : State) : Host.Outcome State Fault Refusal := .next (s.receiveByte Config.commandMark)

/-- LENGTH: the code and the length byte of a frame have arrived; a length above 240 ends the frame at once, answered
LENGTH, and any other leaves the port RECEIVING (R163; assumption 6). -/
def execLength (code len : Byte) (s : State) : Host.Outcome State Fault Refusal :=
  .next (if s.port.executing then s.markOverrun else (s.receiving [code] s.frameTime).receiveByte len)

/-- UNKNOWN_COMMAND: a whole frame, given by its code, payload and received sum, through the port's checks (R164;
assumption 5). -/
def execUnknownCommand (code : Byte) (payload : List Byte) (sum : BitVec 16) (s : State) :
    Host.Outcome State Fault Refusal :=
  .next (if s.port.executing then s.markOverrun else s.wholeFrame code payload sum)

/-- The frame in progress discarded without a response (R163). -/
def State.dropFrame (s : State) : State :=
  s.withPort { s.port with rx := .hunting, buffer := [], frameTimer := none }

/-- FRAME_TIMEOUT: the 50 ms run out before the frame is whole (R163). -/
def execFrameTimeout (s : State) : Host.Outcome State Fault Refusal :=
  .next (if s.port.rx = .receiving then s.dropFrame else s)

/-- FRAMING_ERROR: a byte received with a framing error ends the frame (R163). -/
def execFramingError (s : State) : Host.Outcome State Fault Refusal :=
  .next (if s.port.rx = .receiving then s.dropFrame else s)

/-- The OVERRUN response (R165). -/
def overrunResponse : Response := { code := 0x00, result := .overrun, payload := [] }

/-- The end of the executing command's response: the execution flag clears, and marks that arrived during the execution
earn one OVERRUN response (R164, R165; assumption 7). -/
def State.endExecution (s : State) : State :=
  (s.withPort { s.port with
    executing := false, overrun := false
    sending := if s.port.overrun then [overrunResponse] else [] }).dropFrame

/-- RESPONSE_SENT: the last byte of the oldest response has been sent. When it was the executing command's, its execution
ends, and the reset that a RESET has arranged takes effect in this step, with no OVERRUN response (R164, R165, R167;
assumptions 7 and 8). -/
def execResponseSent (s : State) : Host.Outcome State Fault Refusal :=
  .next (match s.port.sending.tail with
    | r :: rest => s.withPort { s.port with sending := r :: rest }
    | [] =>
      if s.port.executing then
        match s.port.resetArranged with
        | some kind => s.takeReset kind
        | none => s.endExecution
      else s.withPort { s.port with sending := [] })

end Sys2Proof.Machine
end

