-- ==== Sys2Proof/Machine/Dispatch.lean ====
section
/-! DEFINITION. The dispatch: one arm for each constructor of Instr, each one call of that command's meaning. -/

namespace Sys2Proof.Machine

/-- The effect of a command on everything but the queue of waiting commands. -/
def exec (i : Instr) (s : State) : Host.Outcome State Fault Refusal :=
  match i with
  -- starts (R176, R167)
  | .powerOn inputs => Sys2Proof.Machine.execPowerOn inputs s
  | .identify => Sys2Proof.Machine.execIdentify s
  | .resetSoft => Sys2Proof.Machine.execResetSoft s
  | .resetHard => Sys2Proof.Machine.execResetHard s
  | .softReset => Sys2Proof.Machine.execSoftReset s
  | .hardReset => Sys2Proof.Machine.execHardReset s
  -- site clock (R2 to R4)
  | .setClock minute => Sys2Proof.Machine.execSetClock minute s
  | .getClock => Sys2Proof.Machine.execGetClock s
  | .clockMinuteTick => Sys2Proof.Machine.execClockMinuteTick s
  -- settings (R20, R21, R53, R54, R58, R59, R135, R136, R177, R178)
  | .setLimits args => Sys2Proof.Machine.execSetLimits args s
  | .getLimits => Sys2Proof.Machine.execGetLimits s
  | .setBay bay args => Sys2Proof.Machine.execSetBay bay args s
  | .getBay bay => Sys2Proof.Machine.execGetBay bay s
  | .setProduct code args => Sys2Proof.Machine.execSetProduct code args s
  | .getProduct code => Sys2Proof.Machine.execGetProduct code s
  | .setSegregation group row => Sys2Proof.Machine.execSetSegregation group row s
  | .getSegregation group => Sys2Proof.Machine.execGetSegregation group s
  | .saveSettings => Sys2Proof.Machine.execSaveSettings s
  | .eraseComplete => Sys2Proof.Machine.execEraseComplete s
  | .writeComplete checksumMatches => Sys2Proof.Machine.execWriteComplete checksumMatches s
  | .verifyComplete agrees => Sys2Proof.Machine.execVerifyComplete agrees s
  -- drivers and hours (R7 to R15, R32)
  | .admitDriver card args => Sys2Proof.Machine.execAdmitDriver card args s
  | .updateSummary card accounts => Sys2Proof.Machine.execUpdateSummary card accounts s
  | .holdDriver card => Sys2Proof.Machine.execHoldDriver card s
  | .freeDriver card => Sys2Proof.Machine.execFreeDriver card s
  | .retireDriver card => Sys2Proof.Machine.execRetireDriver card s
  | .readDriver card => Sys2Proof.Machine.execReadDriver card s
  | .listDrivers page => Sys2Proof.Machine.execListDrivers page s
  | .project card plan consignment => Sys2Proof.Machine.execProject card plan consignment s
  -- units (R36, R43, R47, R49)
  | .admitUnit number count maxPayload compartments => Sys2Proof.Machine.execAdmitUnit number count maxPayload compartments s
  | .markClean number compartment => Sys2Proof.Machine.execMarkClean number compartment s
  | .retireUnit number => Sys2Proof.Machine.execRetireUnit number s
  | .readUnit number => Sys2Proof.Machine.execReadUnit number s
  -- consignments (R69 to R81, R139)
  | .openConsignment args => Sys2Proof.Machine.execOpenConsignment args s
  | .amendLine number compartment ordered => Sys2Proof.Machine.execAmendLine number compartment ordered s
  | .cancelLine number compartment => Sys2Proof.Machine.execCancelLine number compartment s
  | .closeShort number compartment => Sys2Proof.Machine.execCloseShort number compartment s
  | .voidConsignment number => Sys2Proof.Machine.execVoidConsignment number s
  | .release number => Sys2Proof.Machine.execRelease number s
  | .readConsignment number => Sys2Proof.Machine.execReadConsignment number s
  -- bays from the host (R119, R133, R137, R138)
  | .bayStatus bay => Sys2Proof.Machine.execBayStatus bay s
  | .bayLamp bay call => Sys2Proof.Machine.execBayLamp bay call s
  | .stopBay bay => Sys2Proof.Machine.execStopBay bay s
  | .bayReset bay => Sys2Proof.Machine.execBayReset bay s
  -- attention (R173 to R175)
  | .readAttention => Sys2Proof.Machine.execReadAttention s
  | .ackAttention entry mask => Sys2Proof.Machine.execAckAttention entry mask s
  | .setAttentionEnable bayKinds gantryKinds => Sys2Proof.Machine.execSetAttentionEnable bayKinds gantryKinds s
  -- office port (R163 to R165)
  | .unknownCommand code payload sum => Sys2Proof.Machine.execUnknownCommand code payload sum s
  | .frameTimeout => Sys2Proof.Machine.execFrameTimeout s
  | .framingError => Sys2Proof.Machine.execFramingError s
  | .responseSent => Sys2Proof.Machine.execResponseSent s
  -- gantry bus (R149 to R158)
  | .requestRaised bay cls => Sys2Proof.Machine.execRequestRaised bay cls s
  | .take bay => Sys2Proof.Machine.execTake bay s
  | .grantExpiry => Sys2Proof.Machine.execGrantExpiry s
  | .holdExpiry => Sys2Proof.Machine.execHoldExpiry s
  | .messageDiscarded => Sys2Proof.Machine.execMessageDiscarded s
  | .transmissionEnd => Sys2Proof.Machine.execTransmissionEnd s
  | .stationLost bay => Sys2Proof.Machine.execStationLost bay s
  -- messages to the bay slots (R123 to R129)
  | .hello bay => Sys2Proof.Machine.execHello bay s
  | .vehiclePresent bay tag => Sys2Proof.Machine.execVehiclePresent bay tag s
  | .vehicleAbsent bay => Sys2Proof.Machine.execVehicleAbsent bay s
  | .card bay number => Sys2Proof.Machine.execCard bay number s
  | .drain bay compartment => Sys2Proof.Machine.execDrain bay compartment s
  | .call bay => Sys2Proof.Machine.execCall bay s
  -- the engine (R84, R89, R90)
  | .loadRequest bay compartment => Sys2Proof.Machine.execLoadRequest bay compartment s
  | .evaluationCompletion => Sys2Proof.Machine.execEvaluationCompletion s
  | .droppedEvaluationCompletion => Sys2Proof.Machine.execDroppedEvaluationCompletion s
  -- filling supervision (R107, R113, R114, R118)
  | .progress bay permit reading flow => Sys2Proof.Machine.execProgress bay permit reading flow s
  | .finish bay permit reading => Sys2Proof.Machine.execFinish bay permit reading s
  | .progressTimeout bay => Sys2Proof.Machine.execProgressTimeout bay s
  | .stop bay => Sys2Proof.Machine.execStop bay s
  | .meterFault bay => Sys2Proof.Machine.execMeterFault bay s
  -- acknowledgement (R157)
  | .ack bay number lock => Sys2Proof.Machine.execAck bay number lock s
  -- hardwired inputs (R120, R121, R130, R131)
  | .clampChange bay reading => Sys2Proof.Machine.execClampChange bay reading s
  | .probeChange bay reading => Sys2Proof.Machine.execProbeChange bay reading s
  | .esdAssertion => Sys2Proof.Machine.execEsdAssertion s
  | .esdRelease => Sys2Proof.Machine.execEsdRelease s
  -- bytes at the office port (R163)
  | .frameMark => Sys2Proof.Machine.execFrameMark s
  | .length code len => Sys2Proof.Machine.execLength code len s

end Sys2Proof.Machine
end

