-- ==== Sys2Proof/Safety.lean ====
section
/-! DEFINITION. The words in which claims about the block are said: which pieces of state two states share, what the office
port records when it answers, who holds the bus, and the invariants every step keeps, each as the rules state it. -/

namespace Sys2Proof.Machine

/-! ## Frames -/

/-- The pieces of state a frame names. -/
inductive Piece where
  | clock | drivers | tankers | consignments | refCounts | store | engine | permits | stallTable | esd | slots | bus
  | port | gantryFlags | bayFlags | attn | startKind | pending
  deriving DecidableEq, Repr

/-- One piece of state has the same contents in two states. -/
def Piece.same (s t : State) : Piece → Prop
  | .clock => t.clock = s.clock
  | .drivers => t.drivers = s.drivers
  | .tankers => t.tankers = s.tankers
  | .consignments => t.consignments = s.consignments
  | .refCounts => t.refCounts = s.refCounts
  | .store => t.store = s.store
  | .engine => t.engine = s.engine
  | .permits => t.filling.permits = s.filling.permits
  | .stallTable => t.filling.stallTable = s.filling.stallTable
  | .esd => t.filling.esd = s.filling.esd
  | .slots => t.slots = s.slots
  | .bus => t.bus = s.bus
  | .port => t.port = s.port
  | .gantryFlags => t.attention.gantry = s.attention.gantry
  | .bayFlags => t.attention.bays = s.attention.bays
  | .attn => t.attention.attn = s.attention.attn
  | .startKind => t.startKind = s.startKind
  | .pending => t.pending = s.pending

/-- t differs from s in the listed pieces at most. -/
def State.keepsAllBut (s : State) (changed : List Piece) (t : State) : Prop := ∀ x : Piece, x ∉ changed → x.same s t

/-- Every bay but b has its slot record, permit slot and flags unchanged. -/
def State.keepsOtherBays (s : State) (b : Bay) (t : State) : Prop :=
  ∀ a : Bay, a ≠ b → t.slot a = s.slot a ∧ t.permitSlot a = s.permitSlot a ∧ t.attention.bays.look a = s.attention.bays.look a

/-- t is a state whose driver register is that of s but for the record of one card. -/
def State.keepsOtherDrivers (s : State) (card : Nat) (t : State) : Prop :=
  ∀ k : Nat, k ≠ card → t.driver? k = s.driver? k

/-- t is a state whose unit register is that of s but for the record of one number. -/
def State.keepsOtherTankers (s : State) (number : Nat) (t : State) : Prop :=
  ∀ k : Nat, k ≠ number → t.tanker? k = s.tanker? k

/-- t is a state whose consignment register is that of s but for the record of one number. -/
def State.keepsOtherConsignments (s : State) (number : Nat) (t : State) : Prop :=
  ∀ k : Nat, k ≠ number → t.consignment? k = s.consignment? k

/-- Every line of the register but one is unchanged. -/
def State.keepsOtherLines (s : State) (number compartment : Nat) (t : State) : Prop :=
  ∀ n c : Nat, ¬ (n = number ∧ c = compartment) → t.line? n c = s.line? n c

/-! ## Partners of the block -/

/-- The port's own part of an answered host command: the execution flag set, the response handed to the link, and the
receiver HUNTING again (R163, R164). -/
def State.taken (code : Byte) (result : ResultCode) (payload : List Byte) (s : State) : State :=
  s.withPort { s.port with
    rx := .hunting, buffer := [], frameTimer := none, executing := true
    sending := s.port.sending ++ [{ code := code, result := result, payload := payload }] }

/-- Bay b holds the bus (R152). -/
def State.holds (s : State) (b : Bay) : Prop := s.bus.grant.map (fun g => (g.bay, g.phase)) = some (b, .held)

/-- Bay b holds the bus and its slot is UP, so its message is delivered (R152, R160). -/
def State.hears (s : State) (b : Bay) : Prop := s.holds b ∧ (s.slot b).link = .up

/-- The last response handed to the link. -/
def State.lastResponse? (s : State) : Option Response := s.port.sending.getLast?

/-- The command in transmission to bay b, unless it is to be forgotten at its end (R156, R148). -/
def State.sendingTo (s : State) (b : Bay) : List BusCommand :=
  match s.bus.transmission with
  | some x => if x.bay = b ∧ x.forgotten = false then [x.command] else []
  | none => []

/-- The commands to bay b not yet sent whole, in the order they go out: the one in transmission, then those that wait
(R154, R156). A pick moves a command from one place to the other and leaves this list as it is. -/
def State.toStation (s : State) (b : Bay) : List BusCommand := s.sendingTo b ++ (s.waitingOf b).map (·.command)

/-- The length a payload must have under a host command's code: fixed, or counted by the count it holds; none where it is
too short to hold that count (the table of R168). -/
def requiredLength (code : Byte) (payload : List Byte) : Option Nat :=
  match code.toNat with
  | 0x01 | 0x11 | 0x19 | 0x28 | 0x70 => some 0
  | 0x02 | 0x1B | 0x21 | 0x23 | 0x36 | 0x60 | 0x62 | 0x63 => some 1
  | 0x61 => some 2
  | 0x10 | 0x42 | 0x43 | 0x71 => some 3
  | 0x32 | 0x33 | 0x34 | 0x35 | 0x41 | 0x54 | 0x55 | 0x56 | 0x72 => some 4
  | 0x52 | 0x53 => some 5
  | 0x51 => some 7
  | 0x20 => some 10
  | 0x31 => some 12
  | 0x1A => some 14
  | 0x37 => some 15
  | 0x22 => some 17
  | 0x18 | 0x30 => some 19
  | 0x40 => payload[3]?.map (fun n => 6 + 3 * n.toNat)
  | 0x50 => payload[20]?.map (fun n => 21 + 4 * n.toNat)
  | _ => none

/-! ## Starts, checks and events -/

/-- The levels the hardwired inputs stand at. -/
def State.levels (s : State) : InputLevels :=
  { clamp := perBay (fun b => (s.slot b).clamp), probe := perBay (fun b => (s.slot b).probe), esd := s.filling.esd }

/-- What every start leaves, whatever its kind: empty registers, counts of 0, an empty engine, empty permit slots, OFFLINE
slots that read their inputs, a HUNTING port and clear bay flags (R5, R34, R50, R64, R83, R105, R121, R122, R167, R170). -/
structure Started (kind : StartKind) (inputs : InputLevels) (t : State) : Prop where
  records : t.drivers = [] ∧ t.tankers = [] ∧ t.consignments = []
  counts : ∀ code, t.refCount code = 0
  engine : t.engine.queue = [] ∧ t.engine.evaluation = none ∧ t.engine.counter = 1
  permits : ∀ b : Bay, (t.permitSlot b).permit = none ∧ (t.permitSlot b).lastReading = none ∧ (t.permitSlot b).flow = none
    ∧ (t.permitSlot b).timer = none ∧ (t.permitSlot b).output = false
  stalls : t.filling.stallTable = []
  esd : t.filling.esd = inputs.esd
  slots : ∀ b : Bay, t.slot b =
    { link := .offline, state := .offline, present := none, card := none, clamp := inputs.clamp.look b,
      probe := inputs.probe.look b, go := .unknown, call := .unknown, lockReported := .unknown,
      lockDesired := .disengaged, lastRefusal := none }
  port : t.port.rx = .hunting ∧ t.port.buffer = [] ∧ t.port.frameTimer = none ∧ t.port.executing = false
    ∧ t.port.overrun = false ∧ t.port.sending = [] ∧ t.port.resetArranged = none
  flags : ∀ b : Bay, t.attention.bays.look b = 0
  kind : t.startKind = kind

/-- A RESET of this kind has been taken, and its OK is the one response still being sent (R167). -/
def State.awaitsReset (s : State) (kind : StartKind) : Prop :=
  s.port.executing = true ∧ s.port.resetArranged = some kind ∧ s.port.sending.length = 1

/-- The part starts on a command: on POWER_ON, and on the end of a RESET's OK, which RESPONSE_SENT and the row of that
reset both say (R167, R176; assumption 8). -/
def State.startsOn (s : State) (i : Instr) : Prop :=
  (∃ inputs, i = .powerOn inputs) ∨ (s.awaitsReset .soft ∧ (i = .softReset ∨ i = .responseSent))
    ∨ (s.awaitsReset .hard ∧ (i = .hardReset ∨ i = .responseSent))

/-- The form check of OPEN_CONSIGNMENT passes, its length being right (R69). -/
structure OpenFormSound (a : OpenArgs) : Prop where
  number : 1 ≤ a.number ∧ a.number ≤ 4294967294
  card : 1 ≤ a.card ∧ a.card ≤ 4294967294
  tanker : 1 ≤ a.tanker ∧ a.tanker ≤ 16777215
  plan : 1 ≤ a.plan.drive ∧ a.plan.drive ≤ 900 ∧ a.plan.drive ≤ a.plan.duty ∧ a.plan.duty ≤ 1440
    ∧ 1 ≤ a.plan.longestLeg ∧ a.plan.longestLeg ≤ a.plan.drive
  destination : a.destination.presence ≤ 1
  count : a.lineCount = a.lines.length ∧ 1 ≤ a.lineCount ∧ a.lineCount ≤ 8
  lines : ∀ l ∈ a.lines, 1 ≤ l.compartment ∧ l.compartment ≤ 8 ∧ 1 ≤ l.product ∧ l.product ≤ 64 ∧ 1 ≤ l.ordered
    ∧ l.ordered ≤ 20000

/-- A line's first product sets drained to no on its compartment, when first says that this is it; nothing else changes in
the unit register (R42). -/
def State.keepsTankersBut (s : State) (tanker compartment : Nat) (first : Bool) (t : State) : Prop :=
  s.keepsOtherTankers tanker t
    ∧ ∀ u, s.tanker? tanker = some u → ∃ v, t.tanker? tanker = some v ∧ v.number = u.number
      ∧ v.maxPayload = u.maxPayload ∧ v.state = u.state ∧ v.bay = u.bay
      ∧ ∀ j : Nat, v.compartment? j = (u.compartment? j).map (fun k =>
          if j = compartment ∧ first = true then { k with drained := false } else k)

/-- The lookup of a tag reported present at bay b, by its three outcomes (R125): a unit free or already here stands here, a
unit at another bay is a conflict, and a tag with no record is refused UNKNOWN_UNIT. -/
structure State.LookedUp (s : State) (b : Bay) (tag : Nat) (t : State) : Prop where
  occupied : (t.slot b).state = .occupied
  raised : t.bayFlag b .vehicleChanged = true
  found : ∀ u, s.tanker? tag = some u → (u.bay = none ∨ u.bay = some b) →
    (t.slot b).present = some { tag := tag, known := true } ∧ t.tanker? tag = some { u with bay := some b }
  conflict : ∀ u a, s.tanker? tag = some u → u.bay = some a → a ≠ b →
    (t.slot b).present = some { tag := tag, known := false } ∧ t.bayFlag b .vehicleConflict = true
      ∧ t.tanker? tag = some u
  unknown : s.tanker? tag = none →
    (t.slot b).present = some { tag := tag, known := false } ∧ t.tanker? tag = none
      ∧ (t.slot b).lastRefusal = some { compartment := 0, reason := .unknownUnit } ∧ (t.slot b).call = .flash
      ∧ t.bayFlag b .refused = true

/-- The records a bay's request is judged on (R90): those found through the bay's slot. -/
def State.judgedTanker? (s : State) (b : Bay) : Option Tanker :=
  match (s.slot b).present with
  | some p => if p.known then s.tanker? p.tag else none
  | none => none

/-- The consignment that names that unit. -/
def State.judgedConsignment? (s : State) (b : Bay) : Option Consignment :=
  (s.judgedTanker? b).bind (fun u => s.consignmentOf? u.number)

/-- Its line for the requested compartment. -/
def State.judgedLine? (s : State) (b : Bay) (c : Nat) : Option Line := (s.judgedConsignment? b).bind (·.line? c)

/-- The driver that consignment names. -/
def State.judgedDriver? (s : State) (b : Bay) : Option Driver := (s.judgedConsignment? b).bind (fun k => s.driver? k.driver)

/-- The projection of check 8 (R94). -/
def State.judgedProjection? (s : State) (b : Bay) : Option Projection :=
  (s.judgedConsignment? b).bind (fun k => (s.judgedDriver? b).map (fun d => s.projectionWith d k.plan k))

/-- The target of a permit: the lesser of ordered volume and capacity, less the loaded volume (R98). -/
def State.judgedTarget (s : State) (u : Tanker) (l : Line) : Int :=
  (min l.ordered (s.capacity u.number l.compartment) : Nat) - (l.loaded : Int)

/-- The fourteen checks of R90 as its table gives them: in order, whether each passes, and the reason when it fails. -/
def State.checkTable (s : State) (b : Bay) (c : Nat) : List (Bool × Reason) :=
  let slot := s.slot b
  let u? := s.judgedTanker? b
  let k? := s.judgedConsignment? b
  let l? := s.judgedLine? b c
  let d? := s.judgedDriver? b
  let p? := s.judgedProjection? b
  [ (!s.clock.unset, .clock),
    (!s.filling.esd, .esd),
    (slot.link == .up && slot.clamp == .closed && slot.probe == .healthy && (s.permitSlot b).permit.isNone && u?.isSome
      && k?.isSome, .bayNotReady),
    (k?.any (fun k => k.state == .opened), .papersState),
    (l?.any (fun l => l.state == .planned || (l.state == .stalled && l.cause != some .overfill)), .lineState),
    (k?.any (fun k => slot.card == some k.driver) && d?.isSome, .driverMismatch),
    (d?.any (fun d => !d.hold), .driverHeld),
    (p?.any (fun p => p.expiry == .valid), .expired),
    (l?.any (fun l => d?.any (fun d => (s.product l.product).hazard == 0
      || (d.classes.getLsbD (s.product l.product).hazard && d.tank))), .endorsement),
    (l?.any (fun l => (s.settingsOf b).groups.getLsbD (s.product l.product).group), .bayProduct),
    (l?.any (fun l => u?.any (fun u => l.loaded != 0 || (u.compartment? l.compartment).all (fun k =>
      k.lastProduct.all (fun q => q == l.product || s.relationOf l.product q == .mix
        || (s.relationOf l.product q == .apart && k.drained))))), .residue),
    (l?.any (fun l => k?.any (fun k => k.lines.all (fun m =>
      m.compartment == l.compartment || !(m.loaded != 0 || m.live)
        || (s.relationOf m.product l.product != .exclude
          && !(s.relationOf m.product l.product == .apart && adjacent m.compartment l.compartment))))), .segregation),
    (p?.any (fun p => p.verdict != .short), .hours),
    (l?.any (fun l => u?.any (fun u => decide ((s.settingsOf b).allowance < s.judgedTarget u l))), .residual) ]

/-- The reason of the first check that fails (R90). -/
def firstFailing : List (Bool × Reason) → Option Reason
  | [] => none
  | (true, _) :: rest => firstFailing rest
  | (false, r) :: _ => some r

/-- The number after a permit number, from 65,535 back to 1 (R100). -/
def numberAfter (n : Nat) : Nat := if 65535 ≤ n then 1 else n + 1

/-- The number k places on from a permit number (R100). -/
def numberOn (n : Nat) : Nat → Nat
  | 0 => n
  | k + 1 => numberOn (numberAfter n) k

/-- A live permit of some bay holds a number (R100). -/
def State.numberLive (s : State) (n : Nat) : Prop := ∃ b : Bay, ∃ p, (s.permitSlot b).permit = some p ∧ p.number = n

/-- The evaluation that begins with an entry, holding the records its bay's slot leads to (R85). -/
def State.evaluationFor (s : State) (e : Entry) : Evaluation :=
  { bay := e.bay, compartment := e.compartment, dropped := false
    heldTanker := (s.judgedTanker? e.bay).map (·.number)
    heldConsignment := (s.judgedConsignment? e.bay).map (·.number)
    heldDriver := (s.judgedConsignment? e.bay).map (·.driver) }

/-- The events that end bay b's live permit p by the stall operation, each with its cause and with what makes it happen
(the table of R115). A message needs the bay to hold the bus, a timeout a running timer, a lost station an outstanding
command, an input its change, and a host command an idle port. -/
inductive StallingEvent (s : State) (b : Bay) (p : Permit) : Instr → Cause → Prop where
  | timeout : (s.permitSlot b).timer.isSome = true → StallingEvent s b p (.progressTimeout b) .timeout
  | stopButton : s.hears b → StallingEvent s b p (.stop b) .stopButton
  | meterFault : s.hears b → StallingEvent s b p (.meterFault b) .meterFault
  | hostStop : s.port.executing = false → StallingEvent s b p (.stopBay b.num) .hostStop
  | clamp : (s.slot b).clamp = .closed → StallingEvent s b p (.clampChange b .opened) .clamp
  | probe : (s.slot b).probe = .healthy → StallingEvent s b p (.probeChange b .tripped) .probe
  | departure : s.hears b → (s.slot b).state = .loading → StallingEvent s b p (.vehicleAbsent b) .vehicleLeft
  | otherTag : ∀ tag, s.hears b → (s.slot b).state = .loading → tag ≤ 16777215 →
      (∀ x, (s.slot b).present = some x → x.tag ≠ tag) → StallingEvent s b p (.vehiclePresent b tag) .vehicleLeft
  | stationLost : (s.bus.outstanding.look b).isSome = true → (s.slot b).state ≠ .offline →
      StallingEvent s b p (.stationLost b) .station
  | restart : s.hears b → (s.settingsOf b).enabled = true → (s.slot b).state ≠ .offline →
      StallingEvent s b p (.hello b) .station
  | disabled : ∀ a : BayArgs, s.port.executing = false → s.store.save = .idle → (s.settingsOf b).enabled = true →
      a.enabled = 0 → (s.slot b).state ≠ .offline → StallingEvent s b p (.setBay b.num a) .station
  | bayReset : s.port.executing = false → (s.settingsOf b).enabled = true → (s.slot b).state ≠ .offline →
      StallingEvent s b p (.bayReset b.num) .bayReset
  | esd : s.filling.esd = false →
      (∀ a q, a ≠ b → (s.permitSlot a).permit = some q → ¬ (q.consignment = p.consignment ∧ q.line = p.line)) →
      StallingEvent s b p .esdAssertion .esd
  | overfill : ∀ (m : Nat) (flow : Flow) (c : Consignment), s.hears b → p.number ≤ 65535 → m ≤ 65535 →
      s.consignment? p.consignment = some c → s.capacity c.tanker p.line < p.base + m →
      StallingEvent s b p (.progress b p.number m flow) .overfill

/-! ## What every step keeps -/

/-- The site minute is in its range, and an UNSET clock stands at 0 (R1). -/
def State.ClockSound (s : State) : Prop :=
  s.clock.minute ≤ Config.maxMinute ∧ (s.clock.unset = true → s.clock.minute = 0)

/-- One bay's filling: its station link, slot state, permit slot, PERMIT output and timer agree (R105, R112, R122), the
vehicle it holds as known stands there in the unit register (R39), and a live permit has its clamp closed, its probe healthy,
its unit at the bay and ESD clear (R104). -/
structure State.BaySafe (s : State) (b : Bay) : Prop where
  link : (s.slot b).link = .up ↔ (s.slot b).state ≠ .offline
  vehicle : (s.slot b).present.isSome = true ↔ ((s.slot b).state = .occupied ∨ (s.slot b).state = .loading)
  loading : (s.slot b).state = .loading ↔ (s.permitSlot b).permit.isSome = true
  output : (s.permitSlot b).output = (s.permitSlot b).permit.isSome
  timer : (s.permitSlot b).timer.isSome = (s.permitSlot b).permit.isSome
  standing : ∀ p, (s.slot b).present = some p → p.known = true → (s.tanker? p.tag).bind (·.bay) = some b
  live : (s.permitSlot b).permit.isSome = true →
    (s.slot b).clamp = .closed ∧ (s.slot b).probe = .healthy ∧ s.filling.esd = false
      ∧ ∃ p, (s.slot b).present = some p ∧ p.known = true

/-- Every bay's filling is safe. -/
def State.FillingSafe (s : State) : Prop := ∀ b : Bay, s.BaySafe b

/-- At least one set flag belongs to an enabled kind (R172). -/
def State.EnabledFlagSet (s : State) : Prop :=
  (∃ k : GantryKind, s.gantryFlag k = true ∧ s.store.settings.gantryKinds.getLsbD k.bit = true)
    ∨ ∃ b : Bay, ∃ k : BayKind, s.bayFlag b k = true ∧ s.store.settings.bayKinds.getLsbD k.bit = true

/-- The enable masks hold no bit that stands for no kind (R175). -/
def Settings.MasksSound (c : Settings) : Prop := c.bayKinds &&& ~~~allBayKinds = 0 ∧ c.gantryKinds &&& ~~~allGantryKinds = 0

/-- ATTN is asserted exactly while a set flag belongs to an enabled kind (R172), and bits that stand for no kind are 0
(R173) in every flag set and in every enable mask the part keeps. -/
structure State.AttentionSound (s : State) : Prop where
  attn : s.attention.attn = true ↔ s.EnabledFlagSet
  gantry : s.attention.gantry &&& ~~~allGantryKinds = 0
  bays : ∀ b : Bay, s.attention.bays.look b &&& ~~~allBayKinds = 0
  working : s.store.settings.MasksSound
  image : ∀ c, s.store.image.contents = some c → c.MasksSound
  copy : ∀ c, s.store.copy = some c → c.MasksSound

/-- Every field of the limits set is within its range (R19). -/
def Limits.Sound (l : Limits) : Prop :=
  (60 ≤ l.dDay ∧ l.dDay ≤ 900) ∧ (60 ≤ l.cMax ∧ l.cMax ≤ 480) ∧ (15 ≤ l.bMin ∧ l.bMin ≤ 120)
    ∧ (120 ≤ l.sDuty ∧ l.sDuty ≤ 1080) ∧ (600 ≤ l.wDrive ∧ l.wDrive ≤ 6000) ∧ l.margin ≤ 120 ∧ l.handling ≤ 120
    ∧ (100 ≤ l.fNom ∧ l.fNom ≤ 6000) ∧ l.tolerance ≤ 500

/-- Every setting of a bay is within its range (R135). -/
def BaySettings.Sound (x : BaySettings) : Prop :=
  (1 ≤ x.rank ∧ x.rank ≤ 12) ∧ (100 ≤ x.flow ∧ x.flow ≤ 6000) ∧ x.allowance ≤ 400 ∧ x.slowdown ≤ 2000
    ∧ (10 ≤ x.initialTimeout ∧ x.initialTimeout ≤ 300) ∧ (2 ≤ x.progressTimeout ∧ x.progressTimeout ≤ 60)

/-- A defined entry holds a consistent hazard profile, an undefined one the blank content (R51). -/
def Product.Sound (p : Product) : Prop :=
  if p.defined then
    p.un ≤ 3600 ∧ p.hazard ≤ 9 ∧ p.subsidiary ≤ 9 ∧ p.group ≤ 15 ∧ 500 ≤ p.density ∧ p.density ≤ 2000
      ∧ (if p.hazard = 0 then p.un = 0 ∧ p.subsidiary = 0 ∧ p.packing = .none else 1 ≤ p.un ∧ p.subsidiary ≠ p.hazard)
  else p = .blank

/-- A set of settings as the part keeps it: every field in range, every entry consistent, the matrix symmetric with MIX on
its diagonal (R19, R51, R57, R135). -/
structure Settings.Sound (c : Settings) : Prop where
  limits : c.limits.Sound
  bays : ∀ b : Bay, (c.bays.look b).Sound
  products : ∀ p ∈ c.products.toList, p.Sound
  symmetric : ∀ g h : Fin 16, c.matrix[g][h] = c.matrix[h][g]
  diagonal : ∀ g : Fin 16, c.matrix[g][g] = .mix

/-- The settings and their stored image: all of them sound, a copy present exactly while a save is in flight and then equal
to the working copy, and the image bad while it is erased and written (R177, R178). -/
structure State.StoreSound (s : State) : Prop where
  working : s.store.settings.Sound
  image : ∀ c, s.store.image.contents = some c → c.Sound
  inFlight : s.store.copy = if s.store.save = .idle then none else some s.store.settings
  bad : s.store.save = .erasing ∨ s.store.save = .writing → s.store.image.checksumMatches = false

/-- Keys in ascending order, no two alike. -/
def Ascending (keys : List Nat) : Prop := keys.Pairwise (· < ·)

/-- The three registers: no two records with one key, and no more records than the part has places (R5, R34, R64). -/
structure State.RegistersSound (s : State) : Prop where
  drivers : Ascending (s.drivers.map (·.card))
  tankers : Ascending (s.tankers.map (·.number))
  consignments : Ascending (s.consignments.map (·.number))
  driverPlaces : s.drivers.length ≤ 96
  tankerPlaces : s.tankers.length ≤ 32
  consignmentPlaces : s.consignments.length ≤ 32

/-- The state a consignment gives its unit (R35). -/
def ConsignmentState.tankerState : ConsignmentState → TankerState
  | .opened | .complete => .planned
  | .released => .released

/-- The state a consignment gives its driver (R6). -/
def ConsignmentState.driverState : ConsignmentState → DriverState
  | .opened | .complete => .assigned
  | .released => .dispatched

/-- The fields of a driver record follow its state (R6). -/
def Driver.FieldsSound (d : Driver) : Prop :=
  match d.state with
  | .onSite => d.arrival.isSome = true ∧ d.consignment = none ∧ d.committed = none
  | .assigned => d.arrival.isSome = true ∧ d.consignment.isSome = true ∧ d.committed = none
  | .dispatched => d.arrival = none ∧ d.committed.isSome = true ∧ d.hold = false

/-- The links of the registers: every consignment names one unit and one driver, whose states it gives; a unit is in
another state than IDLE only by a consignment that names it, and a driver's consignment field is that of the consignment
that names it (R6, R35, R64). -/
structure State.LinksSound (s : State) : Prop where
  registers : s.RegistersSound
  fields : ∀ d ∈ s.drivers, d.FieldsSound
  tankerOf : ∀ c ∈ s.consignments, (s.tanker? c.tanker).map (·.state) = some c.state.tankerState
  driverOf : ∀ c ∈ s.consignments,
    (s.driver? c.driver).map (fun d => (d.state, d.consignment)) = some (c.state.driverState, some c.number)
  named : ∀ t ∈ s.tankers, t.state ≠ .idle → ∃ c ∈ s.consignments, c.tanker = t.number
  linked : ∀ d ∈ s.drivers, ∀ n, d.consignment = some n → (s.consignment? n).map (·.driver) = some d.card
  oneEach : s.consignments.Pairwise (fun a b => a.tanker ≠ b.tanker ∧ a.driver ≠ b.driver)

/-- Lines and last-product marks that name a product code (R55). -/
def State.references (s : State) (code : Nat) : Nat :=
  (s.consignments.flatMap Consignment.products).count code + (s.tankers.flatMap Tanker.marks).count code

/-- Every product's reference count is the number of lines and marks that name it (R55). -/
def State.CountsSound (s : State) : Prop := ∀ code, 1 ≤ code → code ≤ 64 → s.refCount code = s.references code

/-- The evaluation queue: at most one entry for a bay, an evaluation in flight whenever an entry waits, and the entry of
an evaluation that has not been dropped at the head (R83, R85). -/
structure State.EngineSound (s : State) : Prop where
  oneEach : (s.engine.queue.map (·.bay)).Nodup
  inFlight : s.engine.queue ≠ [] → s.engine.evaluation.isSome = true
  head : ∀ e, s.engine.evaluation = some e → e.dropped = false → s.engine.queue.head? = some ⟨e.bay, e.compartment⟩
  counter : 1 ≤ s.engine.counter ∧ s.engine.counter ≤ 65535

/-- Live permits: no two share a number, and each has a number and thresholds in range and a slack of 0 or more (R98,
R100, R104). -/
structure State.PermitsSound (s : State) : Prop where
  distinct : ∀ a b : Bay, ∀ p q, (s.permitSlot a).permit = some p → (s.permitSlot b).permit = some q →
    p.number = q.number → a = b
  figures : ∀ b : Bay, ∀ p, (s.permitSlot b).permit = some p →
    1 ≤ p.number ∧ p.number ≤ 65535 ∧ 1 ≤ p.stopPoint ∧ p.slowdownPoint ≤ p.stopPoint ∧ 0 ≤ p.slack
  counter : 1 ≤ s.engine.counter ∧ s.engine.counter ≤ 65535

/-- Every live permit is backed by the records: its consignment is OPEN with a live line for it, no other live permit
names that line, and its base plus its stop point is at most the capacity of its compartment less the bay's overrun
allowance (R67, R101, R104). -/
structure State.PermitsBacked (s : State) : Prop where
  links : s.LinksSound
  backed : ∀ b : Bay, ∀ p, (s.permitSlot b).permit = some p →
    ∃ c l, s.consignment? p.consignment = some c ∧ c.state = .opened ∧ c.line? p.line = some l ∧ l.live = true
      ∧ p.base + p.stopPoint + (s.settingsOf b).allowance ≤ s.capacity c.tanker p.line
  apart : ∀ a b : Bay, ∀ p q, (s.permitSlot a).permit = some p → (s.permitSlot b).permit = some q →
    p.consignment = q.consignment → p.line = q.line → a = b

/-- Waiting LAMPs of a bay. -/
def State.waitingLamps (s : State) (b : Bay) : Nat := (s.waitingOf b).countP (fun w => w.command.isLamp)

/-- ARM_TOGGLEs of a bay that wait, are being sent or await acknowledgement. -/
def State.togglesInHand (s : State) (b : Bay) : Nat :=
  (s.waitingOf b).countP (fun w => w.command == .armToggle)
    + (if s.bus.transmission.any (fun t => t.bay == b && t.command == .armToggle) then 1 else 0)
    + (if (s.bus.outstanding.look b).any (fun o => o.command == .armToggle) then 1 else 0)

/-- The bus: at most 4 waiting commands a bay (R154), at most one waiting LAMP and one ARM_TOGGLE in hand (R155), command
numbers 0 to 255 (R156), never a grant beside a transmission (R150), and nothing sent to a bay that has a command
outstanding (R156). -/
structure State.BusSound (s : State) : Prop where
  four : ∀ b : Bay, (s.waitingOf b).length ≤ 4
  oneLamp : ∀ b : Bay, s.waitingLamps b ≤ 1
  oneToggle : ∀ b : Bay, s.togglesInHand b ≤ 1
  numbers : ∀ b : Bay, s.bus.numbers.look b ≤ 255
  exclusive : s.bus.grant = none ∨ s.bus.transmission = none
  unanswered : ∀ t, s.bus.transmission = some t → t.forgotten = false → s.bus.outstanding.look t.bay = none

/-- The bus never stands free while something is eligible for a pick (R150). -/
def State.BusSettled (s : State) : Prop :=
  s.busFree = true →
    (∀ b : Bay, s.bus.urgent.look b = false) ∧ (∀ w ∈ s.bus.outbound, (s.bus.outstanding.look w.bay).isSome = true)
      ∧ (s.engine.evaluation = none → ∀ b : Bay, s.bus.routine.look b = false)

end Sys2Proof.Machine
end

