-- ==== Sys2Proof/Certificates/Slice0/Obligations.lean ====
section
/-! DEFINITION. The statements for the provers, from the numbered rules of spec/. -/

section

open Sys2Proof Sys2Proof.Machine

/-! ## The step and the start -/

/-- The command at the front of the queue is run on the state with the queue's rest, and on an empty queue the block idles:
the queue and its order are the model's (assumption 1). -/
def Obligations.StepRunsTheFrontCommand : Prop :=
  (∀ (c : Instr) (rest : List Instr) (s : State), s.pending = c :: rest → step s = exec c (s.withPending rest))
    ∧ ∀ s : State, s.pending = [] → step s = .next s

/-- No command touches the queue of waiting commands: step alone takes from it. -/
def Obligations.CommandsLeaveTheWaitingQueue : Prop :=
  ∀ (c : Instr) (s t : State), exec c s = .next t → t.pending = s.pending

/-- The values the rules give for power-on (R1, R5, R34, R50, R64, R83, R105, R122, R148, R162, R167, R170, R176), where the
inputs stand OPEN, HEALTHY and clear (the model's choice, assumption 9), the image is bad and erased (the model's choice,
assumption 10), so that the defaults stand with SETTINGS_DEFAULTED, and the pick that ends the start has put the first
JOIN_CALL in transmission (assumption 18). -/
def Obligations.ResetHoldsTheStatedValues : Prop :=
  let s := State.reset
  Started .powerOn { clamp := perBay (fun _ => .opened), probe := perBay (fun _ => .healthy), esd := false } s
    ∧ s.clock.minute = 0 ∧ s.clock.unset = true
    ∧ s.store = { settings := .default, image := { contents := none, checksumMatches := false }, save := .idle, copy := none }
    ∧ s.attention.gantry = 0x0003 ∧ s.attention.attn = true
    ∧ (∀ b : Bay, s.bus.urgent.look b = false ∧ s.bus.routine.look b = false ∧ s.bus.served.look b = false
        ∧ s.bus.numbers.look b = 0 ∧ s.bus.outstanding.look b = none)
    ∧ s.bus.grant = none
    ∧ s.bus.transmission = some { bay := .b1, command := .joinCall, number := none, forgotten := false }
    ∧ s.bus.outbound = Bay.all.tail.map (fun b => { bay := b, command := .joinCall })
    ∧ s.pending = []

/-- The state after reset meets every invariant below. -/
def Obligations.ResetMeetsEveryInvariant : Prop :=
  let s := State.reset
  s.ClockSound ∧ s.FillingSafe ∧ s.AttentionSound ∧ s.StoreSound ∧ s.LinksSound ∧ s.CountsSound ∧ s.EngineSound
    ∧ s.PermitsSound ∧ s.PermitsBacked ∧ s.BusSound ∧ s.BusSettled

/-! ## Invariants -/

/-- R1, R3: the site minute stays in its range, an UNSET clock at 0, and the minute never moves backward while the driver
register is non-empty. -/
def Obligations.StepKeepsTheClockSound : Prop :=
  ∀ s t : State, s.ClockSound → step s = .next t → t.ClockSound ∧ (t.drivers ≠ [] → s.clock.minute ≤ t.clock.minute)

/-- R39, R104, R105, R112, R122: in every step a permit slot, its PERMIT output, its timer, the slot state and the station
link agree, and a live permit has its clamp closed, its probe healthy, its unit at the bay and ESD clear. -/
def Obligations.StepKeepsFillingSafe : Prop :=
  ∀ s t : State, s.FillingSafe → step s = .next t → t.FillingSafe

/-- R172, R173, R175: ATTN is asserted exactly while at least one set flag belongs to an enabled kind. -/
def Obligations.StepKeepsAttnFollowingTheFlags : Prop :=
  ∀ s t : State, s.AttentionSound → step s = .next t → t.AttentionSound

/-- R19, R51, R57, R135, R177, R178: the settings stay in range and consistent, the copy of a save in flight equals the
working copy, and the image is bad while it is erased and written. -/
def Obligations.StepKeepsSettingsSound : Prop :=
  ∀ s t : State, s.StoreSound → step s = .next t → t.StoreSound

/-- R5, R6, R34, R35, R64: the registers stay within their places and without doubles, and drivers, units and consignments
stay linked as their states say. -/
def Obligations.StepKeepsTheRegistersLinked : Prop :=
  ∀ s t : State, s.LinksSound → step s = .next t → t.LinksSound

/-- R55: every reference count stays the number of lines and marks that name the product. -/
def Obligations.StepKeepsReferenceCounts : Prop :=
  ∀ s t : State, s.RegistersSound → s.CountsSound → step s = .next t → t.RegistersSound ∧ t.CountsSound

/-- R83, R85: the evaluation queue keeps one entry a bay, with an evaluation in flight while an entry waits. -/
def Obligations.StepKeepsTheEvaluationQueue : Prop :=
  ∀ s t : State, s.EngineSound → step s = .next t → t.EngineSound

/-- R98, R100, R104: no two live permits share a number, and their figures stay in range. -/
def Obligations.StepKeepsPermitNumbersApart : Prop :=
  ∀ s t : State, s.PermitsSound → step s = .next t → t.PermitsSound

/-- R67, R101, R104: every live permit's base plus its stop point stays at most the capacity of its compartment less the
bay's overrun allowance, on a live line of an OPEN consignment. -/
def Obligations.StepKeepsPermitsBacked : Prop :=
  ∀ s t : State, s.PermitsBacked → step s = .next t → t.PermitsBacked

/-- R150, R154, R155, R156: the outbound queues keep their bounds. -/
def Obligations.StepKeepsTheBusQueues : Prop :=
  ∀ s t : State, s.BusSound → step s = .next t → t.BusSound

/-- R150: the bus never stands free while something is eligible. -/
def Obligations.StepKeepsTheBusSettled : Prop :=
  ∀ s t : State, s.BusSettled → step s = .next t → t.BusSettled

/-! ## Rules over every command -/

/-- R66: a line's loaded volume lies in 0 to 65,535 and never decreases while the line exists. -/
def Obligations.LoadedVolumesNeverFall : Prop :=
  ∀ (s t : State) (n c : Nat) (l m : Line), step s = .next t → s.line? n c = some l → l.loaded ≤ 65535 →
    t.line? n c = some m → l.loaded ≤ m.loaded ∧ m.loaded ≤ 65535

/-- R66 and 05, "Amending, cancelling and closing short": host commands do not change loaded volumes, products or
compartments of lines. -/
def Obligations.HostCommandsMoveNoLitres : Prop :=
  ∀ (i : Instr) (code : Byte) (s t : State) (n c : Nat) (l m : Line), i.hostCode = some code → exec i s = .next t →
    s.line? n c = some l → t.line? n c = some m → m.loaded = l.loaded ∧ m.product = l.product ∧ m.compartment = l.compartment

/-- R90, R102: a permit comes to a bay only by the completion of its evaluation, when all fourteen checks pass. -/
def Obligations.PermitsComeOnlyFromPassedChecks : Prop :=
  ∀ (s t : State) (b : Bay) (p : Permit), step s = .next t → (t.permitSlot b).permit = some p →
    (s.permitSlot b).permit = some p
      ∨ (s.pending.head? = some .evaluationCompletion
          ∧ ∃ e, s.engine.evaluation = some e ∧ e.bay = b ∧ e.dropped = false
            ∧ firstFailing (s.checkTable b e.compartment) = none)

/-- R166 and every owner's checks: a refused host command changes nothing outside the port and carries no payload, but for
RELEASE from its check 5 on (R140, R143) and BAY_LAMP at its check 3 (R133), whose refusals do more; and the refusals of
those two commands before that, by their tables (R139, R133). -/
def Obligations.RefusedCommandsChangeNothing : Prop :=
  (∀ (i : Instr) (code : Byte) (s t : State) (r : Response), i.hostCode = some code → s.port.executing = false →
    exec i s = .next t → t.lastResponse? = some r → r.result ≠ .ok → r.result ≠ .clamped →
    (∀ n, i = .release n → r.result ≠ .expired ∧ r.result ≠ .hours ∧ r.result ≠ .overload) →
    (∀ b v, i = .bayLamp b v → r.result ≠ .full) →
    s.keepsAllBut [.port] t ∧ r.code = code ∧ r.payload = [])
  ∧ (∀ (s : State) (n : Nat), s.port.executing = false →
      (n = 0 ∨ 4294967295 ≤ n → exec (.release n) s = .next (s.taken 0x55 .badValue []))
      ∧ (1 ≤ n → n ≤ 4294967294 →
          (s.consignment? n = none → exec (.release n) s = .next (s.taken 0x55 .notFound []))
          ∧ (∀ c, s.consignment? n = some c → c.state ≠ .complete →
              exec (.release n) s = .next (s.taken 0x55 .wrongState []))
          ∧ (∀ c d, s.consignment? n = some c → c.state = .complete → s.consignmentHeld n = false →
              s.driver? c.driver = some d → (d.state ≠ .assigned ∨ d.hold = true) →
              exec (.release n) s = .next (s.taken 0x55 .wrongState []))))
  ∧ (∀ (s : State) (n v : Nat), s.port.executing = false →
      (n = 0 ∨ 12 < n ∨ 2 < v → exec (.bayLamp n v) s = .next (s.taken 0x61 .badValue []))
      ∧ (∀ b : Bay, n = b.num → v ≤ 2 → (s.slot b).state = .offline →
          exec (.bayLamp n v) s = .next (s.taken 0x61 .wrongState [])))

/-! ## Frames of the office port -/

/-- R162, R164, R166, R168: the payload a well-formed host command travels in is read back as that command. -/
def Obligations.FramesSpellTheirCommands : Prop :=
  ∀ (i : Instr) (code : Byte) (payload : List Byte), i.wellFormed = true → i.hostCode = some code →
    i.payload = some payload → decodeFrame code payload = .command i

/-- R164: a whole frame whose checks pass is handed to the owner of its command: a frame with the right sum acts as the
command it spells. -/
def Obligations.WholeFramesRunTheirCommands : Prop :=
  ∀ (i : Instr) (code : Byte) (payload : List Byte) (s : State), i.wellFormed = true → i.hostCode = some code →
    i.payload = some payload → exec (.unknownCommand code payload (frameSum code payload)) s = exec i s

/-- R162, R163: from HUNTING, the bytes of a frame gather in the buffer, and the last one hands the whole frame to the
checks. -/
def Obligations.BytesGatherIntoAFrame : Prop :=
  ∀ (s : State) (code : Byte) (payload : List Byte), s.port.executing = false → s.port.rx = .hunting →
    payload.length ≤ 240 →
    (∀ n, 1 ≤ n → n ≤ payload.length + 4 →
        ((commandFrame code payload).take n).foldl (fun u x => u.receiveByte x) s
          = s.receiving ((commandFrame code payload).take n).tail 50)
      ∧ (commandFrame code payload).foldl (fun u x => u.receiveByte x) s
          = (s.receiving (commandFrame code payload).dropLast.tail 50).wholeFrame code payload (frameSum code payload)

/-- R165: one command executes at a time; a frame that arrives while the execution flag is set leaves only the overrun
mark. -/
def Obligations.ExecutingPortTakesNoCommand : Prop :=
  ∀ (i : Instr) (code : Byte) (s : State), s.port.executing = true →
    (i.hostCode = some code ∨ i = .frameMark ∨ (∃ p sum, i = .unknownCommand code p sum)) →
    exec i s = .next (s.withPort { s.port with overrun := true })

/-! ## Starts -/

/-- R1, R167, R170, R176, R179: POWER_ON, and a hard reset at the end of the OK of its RESET, empty the records, set the clock
UNSET, and take the settings from a good image and the defaults from a bad one, with SETTINGS_DEFAULTED. That RESPONSE_SENT
and HARD_RESET both say that end, and that HARD_RESET says nothing when no hard reset is arranged, is the model's choice
(assumption 8). -/
def Obligations.HardStartsReadTheImage : Prop :=
  ∀ (s : State) (inputs : InputLevels),
    let hard (i : Instr) (kind : StartKind) (levels : InputLevels) : Prop :=
      ∃ t, exec i s = .next t ∧ Started kind levels t ∧ t.clock.minute = 0 ∧ t.clock.unset = true
        ∧ t.store.image = s.store.image ∧ t.store.save = .idle ∧ t.store.copy = none
        ∧ (if s.store.image.checksumMatches = true ∧ s.store.image.contents.isSome = true then
            s.store.image.contents = some t.store.settings
              ∧ t.attention.gantry = (if levels.esd then 0x0011 else 0x0001)
          else
            t.store.settings = .default ∧ t.attention.gantry = (if levels.esd then 0x0013 else 0x0003))
    hard (.powerOn inputs) .powerOn inputs
      ∧ (s.awaitsReset .hard → hard .hardReset .hard s.levels ∧ hard .responseSent .hard s.levels)
      ∧ (s.port.resetArranged ≠ some .hard → exec .hardReset s = .next s)

/-- R1, R167, R170, R176, R179: a soft reset, at the end of the OK of its RESET, empties the records and keeps the clock, the
working settings and a save in flight. That RESPONSE_SENT and SOFT_RESET both say that end, and that SOFT_RESET says nothing
when no soft reset is arranged, is the model's choice (assumption 8). -/
def Obligations.SoftResetKeepsClockAndSettings : Prop :=
  ∀ s : State,
    (s.awaitsReset .soft → ∀ i, i = .softReset ∨ i = .responseSent →
      ∃ t, exec i s = .next t ∧ Started .soft s.levels t ∧ t.clock = s.clock ∧ t.store = s.store
        ∧ t.attention.gantry = (if s.filling.esd then 0x0011 else 0x0001))
    ∧ (s.port.resetArranged ≠ some .soft → exec .softReset s = .next s)

/-- R148: every start empties the bus and calls each enabled bay with a JOIN_CALL, in ascending bay order; the first is on
the bus (assumption 18). -/
def Obligations.StartsCallEveryEnabledBay : Prop :=
  ∀ (i : Instr) (s : State), s.startsOn i → ∃ t, exec i s = .next t
    ∧ (t.bus.transmission.toList.map (fun x => (x.bay, x.command, x.number, x.forgotten))
        ++ t.bus.outbound.map (fun w => (w.bay, w.command, none, false)))
      = (Bay.all.filter (fun b => (t.settingsOf b).enabled)).map (fun b => (b, .joinCall, none, false))
    ∧ (t.bus.transmission = none → t.bus.outbound = [])
    ∧ t.bus.grant = none
    ∧ ∀ b : Bay, t.bus.urgent.look b = false ∧ t.bus.routine.look b = false ∧ t.bus.served.look b = false
        ∧ t.bus.numbers.look b = 0 ∧ t.bus.outstanding.look b = none

/-! ## What the host reads -/

/-- R4, R14, R15, R49, R54, R81, R136, R138, R167, R168, R173: the reading commands answer from the records as they stand
and change nothing. -/
def Obligations.ReadCommandsAnswerFromTheRecords : Prop :=
  ∀ s : State, s.port.executing = false →
    exec .identify s = .next (s.taken 0x01 .ok (u16 412 ++ [Config.revision] ++ u8 s.startKind.code))
    ∧ exec .getClock s = .next (s.taken 0x11 .ok (u24 s.clock.minute ++ u16 (s.clock.minute / 1440) ++ yn s.clock.unset))
    ∧ (∀ b : Bay, exec (.getBay b.num) s = .next (s.taken 0x1B .ok (baySettingsBytes (s.settingsOf b))))
    ∧ (∀ k, 1 ≤ k → k ≤ 64 →
        exec (.getProduct k) s = .next (s.taken 0x21 .ok (productBytes (s.product k) (s.refCount k))))
    ∧ (∀ k d, 1 ≤ k → k ≤ 4294967294 → s.driver? k = some d →
        exec (.readDriver k) s = .next (s.taken 0x35 .ok (driverBytes d)))
    ∧ (∀ p, p ≤ 3 →
        let cards := ((s.drivers.map (·.card)).drop (24 * p)).take 24
        exec (.listDrivers p) s
          = .next (s.taken 0x36 .ok (u8 s.drivers.length ++ u8 p ++ u8 cards.length ++ cards.flatMap u32)))
    ∧ (∀ k u, 1 ≤ k → k ≤ 16777215 → s.tanker? k = some u →
        exec (.readUnit k) s = .next (s.taken 0x43 .ok (tankerBytes u ((s.consignmentOf? k).map (·.number)))))
    ∧ (∀ k c, 1 ≤ k → k ≤ 4294967294 → s.consignment? k = some c →
        exec (.readConsignment k) s = .next (s.taken 0x56 .ok (consignmentBytes c)))
    ∧ (∀ b : Bay, exec (.bayStatus b.num) s = .next (s.taken 0x60 .ok
        (slotBytes (s.slot b) (s.permitSlot b)
          ((((s.permitSlot b).permit.bind (fun p => s.line? p.consignment p.line)).map (·.loaded)).getD 0))))
    ∧ exec .readAttention s = .next (s.taken 0x70 .ok (maskBytes s.attention.gantry
        ++ Bay.all.flatMap (fun b => maskBytes (s.attention.bays.look b)) ++ maskBytes s.store.settings.bayKinds
        ++ maskBytes s.store.settings.gantryKinds))

/-- R21. -/
def Obligations.GetLimitsAnswersTheWorkingCopy : Prop :=
  ∀ s : State, s.port.executing = false →
    exec .getLimits s = .next (s.taken 0x19 .ok (limitsBytes s.store.settings.limits))

/-- R59. -/
def Obligations.GetSegregationAnswersTheRow : Prop :=
  ∀ (s : State) (g : Nat), s.port.executing = false →
    (g ≤ 15 → exec (.getSegregation g) s
        = .next (s.taken 0x23 .ok ((List.range 16).flatMap (fun h => u8 (s.store.settings.relation g h).code))))
    ∧ (15 < g → exec (.getSegregation g) s = .next (s.taken 0x23 .badValue []))

/-! ## Clock and settings -/

/-- R2, R3: SET_CLOCK by its table, and the end of a minute. -/
def Obligations.ClockIsSetAndCounts : Prop :=
  ∀ (s : State) (m : Nat),
    (s.port.executing = false →
      exec (.setClock m) s = .next (
        if 16777215 < m then s.taken 0x10 .badValue []
        else if m < s.clock.minute ∧ s.drivers ≠ [] then s.taken 0x10 .wrongState []
        else (s.withClock { minute := m, unset := false, counted := 0 }).taken 0x10 .ok []))
    ∧ (s.clock.unset = true → exec .clockMinuteTick s = .next s)
    ∧ (s.clock.unset = false → exec .clockMinuteTick s = .next (s.withClock
        { minute := if s.clock.minute < 16777215 then s.clock.minute + 1 else 16777215, unset := false, counted := 0 }))

/-- R20, R177: SET_LIMITS brings each numeric field into its range and answers CLAMPED when one was outside; while a save is in
flight the six settings commands are refused BUSY, SET_PRODUCT and SET_SEGREGATION past their value checks (R53, R58). -/
def Obligations.LimitsAreClampedUnlessSaving : Prop :=
  ∀ (s : State) (a : LimitsArgs), s.port.executing = false →
    let new : Limits :=
      { dDay := max 60 (min 900 a.dDay), cMax := max 60 (min 480 a.cMax), bMin := max 15 (min 120 a.bMin),
        sDuty := max 120 (min 1080 a.sDuty), wDrive := max 600 (min 6000 a.wDrive), margin := min 120 a.margin,
        handling := min 120 a.handling, fNom := max 100 (min 6000 a.fNom), tolerance := min 500 a.tolerance,
        breakFlag := a.breakFlag ≠ 0 }
    let untouched : Prop := new.dDay = a.dDay ∧ new.cMax = a.cMax ∧ new.bMin = a.bMin ∧ new.sDuty = a.sDuty
      ∧ new.wDrive = a.wDrive ∧ new.margin = a.margin ∧ new.handling = a.handling ∧ new.fNom = a.fNom
      ∧ new.tolerance = a.tolerance ∧ a.breakFlag ≤ 1
    (s.store.save = .idle → ∃ r, (untouched ↔ r = .ok) ∧ (¬ untouched ↔ r = .clamped)
        ∧ exec (.setLimits a) s
          = .next ((s.withStore { s.store with settings := { s.store.settings with limits := new } }).taken 0x18 r
              (limitsBytes new)))
    ∧ (s.store.save ≠ .idle →
        exec (.setLimits a) s = .next (s.taken 0x18 .busy [])
        ∧ exec .saveSettings s = .next (s.taken 0x28 .busy [])
        ∧ (∀ (b : Bay) x, exec (.setBay b.num x) s = .next (s.taken 0x1A .busy []))
        ∧ (∀ x y, exec (.setAttentionEnable x y) s = .next (s.taken 0x72 .busy []))
        ∧ (∀ (k : Nat) (x : ProductArgs), 1 ≤ k → k ≤ 64 →
            (x.defined = 0 ∨ (x.defined = 1 ∧ x.un ≤ 3600 ∧ x.hazard ≤ 9 ∧ x.subsidiary ≤ 9 ∧ x.packing ≤ 3 ∧ x.group ≤ 15
              ∧ 500 ≤ x.density ∧ x.density ≤ 2000 ∧ (x.hazard = 0 → x.un = 0 ∧ x.subsidiary = 0 ∧ x.packing = 0)
              ∧ (x.hazard ≠ 0 → 1 ≤ x.un ∧ x.subsidiary ≠ x.hazard))) →
            exec (.setProduct k x) s = .next (s.taken 0x20 .busy []))
        ∧ (∀ (g : Nat) (row : List Nat), g ≤ 15 → row.length = 16 → (∀ x ∈ row, x ≤ 2) → row[g]? = some 0 →
            exec (.setSegregation g row) s = .next (s.taken 0x22 .busy [])))

/-- R135, R136: SET_BAY stores its settings in range, keeps allowance and slowdown under a live permit, and takes a bay it
disables OFFLINE; to a bay it enables it queues a JOIN_CALL, and to a joined station whose flow, allowance or slowdown it
changes a LIMITS, or raises QUEUE_FULL where the queue holds 4; no other bay is touched. -/
def Obligations.SetBayStoresTheSettings : Prop :=
  ∀ (s : State) (b : Bay) (a : BayArgs), s.port.executing = false → s.store.save = .idle →
    let old := s.settingsOf b
    let kept := (s.permitSlot b).permit.isSome
    let new : BaySettings :=
      { rank := max 1 (min 12 a.rank), flow := max 100 (min 6000 a.flow),
        allowance := if kept then old.allowance else min 400 a.allowance,
        slowdown := if kept then old.slowdown else min 2000 a.slowdown, groups := a.groups,
        initialTimeout := max 10 (min 300 a.initialTimeout), progressTimeout := max 2 (min 60 a.progressTimeout),
        enabled := a.enabled ≠ 0 }
    let untouched : Prop := new.rank = a.rank ∧ new.flow = a.flow ∧ (kept = true ∨ new.allowance = a.allowance)
      ∧ (kept = true ∨ new.slowdown = a.slowdown) ∧ new.initialTimeout = a.initialTimeout
      ∧ new.progressTimeout = a.progressTimeout ∧ a.enabled ≤ 1
    ∃ t r, exec (.setBay b.num a) s = .next t
      ∧ t.store = { s.store with settings := { s.store.settings with bays := s.store.settings.bays.put b new } }
      ∧ t.lastResponse? = some { code := 0x1A, result := r, payload := baySettingsBytes new ++ yn kept }
      ∧ (untouched ↔ r = .ok) ∧ (¬ untouched ↔ r = .clamped)
      ∧ s.keepsOtherBays b t
      ∧ (s.BaySafe b → old.enabled = true → new.enabled = false →
          (t.slot b).state = .offline ∧ (t.slot b).link = .offline ∧ (t.permitSlot b).permit = none
            ∧ t.bayFlag b .stationChanged = true)
      ∧ (¬ (old.enabled = true ∧ new.enabled = false) →
          s.keepsAllBut [.store, .bus, .port, .gantryFlags, .attn] t
          ∧ (let calls : Prop := old.enabled = false ∧ new.enabled = true
             let resends : Prop := old.enabled = true ∧ (s.slot b).link = .up
               ∧ (new.flow ≠ old.flow ∨ new.allowance ≠ old.allowance ∨ new.slowdown ≠ old.slowdown)
             (∀ a : Bay, a ≠ b → t.toStation a = s.toStation a)
             ∧ (calls → (s.waitingOf b).length < 4 → t.toStation b = s.toStation b ++ [.joinCall])
             ∧ (resends → (s.waitingOf b).length < 4 →
                 t.toStation b = s.toStation b ++ [.limits new.flow new.allowance new.slowdown])
             ∧ ((calls ∨ resends) → 4 ≤ (s.waitingOf b).length →
                 t.toStation b = s.toStation b ∧ t.gantryFlag .queueFull = true)
             ∧ (¬ calls → ¬ resends → t.toStation b = s.toStation b ∧ t.attention.gantry = s.attention.gantry)))

/-- R53, R58: SET_PRODUCT writes one entry and SET_SEGREGATION a row and its mirrored column, each frozen while the entry
or the matrix is in use. -/
def Obligations.ProductDataIsWrittenAndFrozen : Prop :=
  ∀ s : State, s.port.executing = false → s.store.save = .idle →
    (∀ (k : Nat) (a : ProductArgs) (pg : Packing), 1 ≤ k → k ≤ 64 → a.defined = 1 → packingOf? a.packing = some pg →
      a.un ≤ 3600 → a.hazard ≤ 9 → a.subsidiary ≤ 9 → a.group ≤ 15 → 500 ≤ a.density → a.density ≤ 2000 →
      (a.hazard = 0 → a.un = 0 ∧ a.subsidiary = 0 ∧ pg = .none) → (a.hazard ≠ 0 → 1 ≤ a.un ∧ a.subsidiary ≠ a.hazard) →
      (s.refCount k = 0 → ∃ t, exec (.setProduct k a) s = .next t
        ∧ t.product k = { defined := true, un := a.un, hazard := a.hazard, subsidiary := a.subsidiary, packing := pg,
                          group := a.group, density := a.density }
        ∧ (∀ j, j ≠ k → t.product j = s.product j) ∧ s.keepsAllBut [.store, .port] t
        ∧ t.store.image = s.store.image ∧ t.lastResponse? = some { code := 0x20, result := .ok, payload := [] })
      ∧ (s.refCount k ≠ 0 → exec (.setProduct k a) s = .next (s.taken 0x20 .inUse [])))
    ∧ (∀ (k : Nat) (a : ProductArgs), 1 ≤ k → k ≤ 64 → a.defined = 0 → s.refCount k = 0 →
        ∃ t, exec (.setProduct k a) s = .next t ∧ t.product k = .blank ∧ (∀ j, j ≠ k → t.product j = s.product j)
          ∧ s.keepsAllBut [.store, .port] t)
    ∧ (∀ (g : Nat) (row : List Nat) (rs : List Relation), g ≤ 15 → row.length = 16 → relationsOf? row = some rs →
        rs[g]? = some .mix →
        (s.consignments = [] → ∃ t, exec (.setSegregation g row) s = .next t
          ∧ (∀ i j, i ≤ 15 → j ≤ 15 → t.store.settings.relation i j =
              if i = g then rs.getD j .mix else if j = g then rs.getD i .mix else s.store.settings.relation i j)
          ∧ s.keepsAllBut [.store, .port] t ∧ t.lastResponse? = some { code := 0x22, result := .ok, payload := [] })
        ∧ (s.consignments ≠ [] → exec (.setSegregation g row) s = .next (s.taken 0x22 .inUse [])))

/-- R177, R178: the stages of a save. -/
def Obligations.SavesPassThroughTheirStages : Prop :=
  ∀ s : State,
    (s.port.executing = false → s.store.save = .idle →
      exec .saveSettings s = .next ((s.withStore { s.store with
        image := { s.store.image with checksumMatches := false }, save := .erasing
        copy := some s.store.settings }).taken 0x28 .ok []))
    ∧ (s.store.save = .erasing → exec .eraseComplete s = .next (s.withStore { s.store with
        image := { contents := none, checksumMatches := false }, save := .writing }))
    ∧ (∀ v, s.store.save = .writing → exec (.writeComplete v) s = .next (s.withStore { s.store with
        image := { contents := s.store.copy, checksumMatches := v }, save := .verifying }))
    ∧ (s.store.save = .verifying → s.store.image.checksumMatches = true →
        exec (.verifyComplete true) s
          = .next ((s.withStore { s.store with save := .idle, copy := none }).raiseGantry .saveDone))
    ∧ (s.store.save = .verifying →
        exec (.verifyComplete false) s = .next ((s.withStore { s.store with
          image := { s.store.image with checksumMatches := false }, save := .idle, copy := none }).raiseGantry
            .saveFailed))

/-! ## Drivers and hours -/

/-- R7: an accepted admission creates the record, and no other record is touched. -/
def Obligations.AdmissionCreatesTheDriver : Prop :=
  ∀ (s : State) (k : Nat) (a : DriverArgs), s.port.executing = false → s.clock.unset = false → 1 ≤ k → k ≤ 4294967294 →
    a.classes &&& ~~~0x03FE = 0 → a.tank ≤ 1 → a.licenceUntil ≤ 65535 → a.endorsementUntil ≤ 65535 →
    a.accounts.driveDay ≤ 1440 → a.accounts.driveCont ≤ 1440 → a.accounts.dutyShift ≤ 1440 →
    a.accounts.drivePeriod ≤ 10080 → s.driver? k = none → s.drivers.length < 96 →
    ∃ t, exec (.admitDriver k a) s = .next t
      ∧ t.driver? k = some
          { card := k, classes := a.classes, tank := a.tank = 1, licenceUntil := a.licenceUntil,
            endorsementUntil := a.endorsementUntil, accounts := a.accounts, summaryStamp := s.clock.minute,
            arrival := some s.clock.minute, state := .onSite, hold := false, consignment := none, committed := none,
            projection := none }
      ∧ t.drivers.length = s.drivers.length + 1 ∧ s.keepsOtherDrivers k t ∧ s.keepsAllBut [.drivers, .port] t
      ∧ t.lastResponse? = some { code := 0x30, result := .ok, payload := [] }

/-- R9, R10, R11: what UPDATE_SUMMARY does by the driver's state. -/
def Obligations.SummariesActByTheDriversState : Prop :=
  ∀ (s : State) (k : Nat) (a : Accounts) (d : Driver), s.port.executing = false → s.clock.unset = false → 1 ≤ k →
    k ≤ 4294967294 → a.driveDay ≤ 1440 → a.driveCont ≤ 1440 → a.dutyShift ≤ 1440 → a.drivePeriod ≤ 10080 →
    s.driver? k = some d → s.driverHeld k = false →
    let fresh : Driver := { d with accounts := a, summaryStamp := s.clock.minute }
    let answered (t : State) (payload : List Byte) : Prop :=
      exec (.updateSummary k a) s = .next t ∧ s.keepsOtherDrivers k t
        ∧ t.lastResponse? = some { code := 0x31, result := .ok, payload := payload }
    (d.state = .onSite →
      ∃ t, answered t [] ∧ t.driver? k = some fresh ∧ s.keepsAllBut [.drivers, .port] t)
    ∧ (∀ n c, d.state = .assigned → d.consignment = some n → s.consignment? n = some c →
        let p := s.projectionWith fresh c.plan c
        ∃ t, answered t (u8 p.verdict.code ++ i16 p.minSlack ++ u8 p.binding.code ++ u8 p.expiry.code)
          ∧ t.driver? k = some { fresh with projection := some p }
          ∧ t.attention.gantry = s.attention.gantry |||
              (match p.verdict with | .short => 0x0040 | .tight => 0x0020 | .clear => 0x0000)
          ∧ s.keepsAllBut [.drivers, .gantryFlags, .attn, .port] t)
    ∧ (d.state = .dispatched → d.consignment = none →
        ∃ t, answered t [] ∧ s.keepsAllBut [.drivers, .port] t
          ∧ t.driver? k = some { fresh with arrival := some s.clock.minute, committed := none, state := .onSite })
    ∧ (d.state = .dispatched → d.consignment ≠ none →
        exec (.updateSummary k a) s = .next (s.taken 0x31 .wrongState []))

/-- R12, R13: the driver hold, and retirement with the card it clears at the bays. -/
def Obligations.HoldsAndRetirementActOnOneDriver : Prop :=
  ∀ (s : State) (k : Nat) (d : Driver), s.port.executing = false → 1 ≤ k → k ≤ 4294967294 → s.driver? k = some d →
    s.driverHeld k = false →
    (d.state ≠ .dispatched →
      (∃ t, exec (.holdDriver k) s = .next t ∧ t.driver? k = some { d with hold := true } ∧ s.keepsOtherDrivers k t
        ∧ s.keepsAllBut [.drivers, .port] t ∧ t.lastResponse? = some { code := 0x32, result := .ok, payload := [] })
      ∧ (∃ t, exec (.freeDriver k) s = .next t ∧ t.driver? k = some { d with hold := false } ∧ s.keepsOtherDrivers k t
        ∧ s.keepsAllBut [.drivers, .port] t ∧ t.lastResponse? = some { code := 0x33, result := .ok, payload := [] }))
    ∧ (d.state = .onSite ∨ (d.state = .dispatched ∧ d.consignment = none) →
        ∃ t, exec (.retireDriver k) s = .next t ∧ t.driver? k = none ∧ s.keepsOtherDrivers k t
          ∧ (∀ b : Bay, (t.slot b).card = if (s.slot b).card = some k then none else (s.slot b).card)
          ∧ (∀ b : Bay, (s.slot b).card ≠ some k → t.slot b = s.slot b)
          ∧ s.keepsAllBut [.drivers, .slots, .bus, .gantryFlags, .attn, .port] t
          ∧ t.lastResponse? = some { code := 0x34, result := .ok, payload := [] })
    ∧ (d.state = .assigned ∨ (d.state = .dispatched ∧ d.consignment ≠ none) →
        exec (.retireDriver k) s = .next (s.taken 0x34 .inUse []))

/-- R32, R33: PROJECT by its table of checks, and the projection it stores and answers. -/
def Obligations.ProjectChecksThenStores : Prop :=
  ∀ (s : State) (k : Nat) (plan : RoundPlan) (n : Option Nat), s.port.executing = false →
    let context : OptField := match n with | some x => { presence := 1, value := x } | none => { presence := 0, value := 0 }
    let badValue : Prop := k = 0 ∨ 4294967295 ≤ k ∨ plan.drive = 0 ∨ 900 < plan.drive ∨ plan.duty < plan.drive
      ∨ 1440 < plan.duty ∨ plan.longestLeg = 0 ∨ plan.drive < plan.longestLeg ∨ n = some 0
      ∨ ∃ x, n = some x ∧ 4294967295 ≤ x
    (s.clock.unset = true → exec (.project k plan context) s = .next (s.taken 0x37 .clockUnset []))
    ∧ (s.clock.unset = false → badValue → exec (.project k plan context) s = .next (s.taken 0x37 .badValue []))
    ∧ (s.clock.unset = false → ¬ badValue →
        (s.driver? k = none → exec (.project k plan context) s = .next (s.taken 0x37 .notFound []))
        ∧ (∀ d, s.driver? k = some d →
            (∀ x, n = some x → s.consignment? x = none →
              exec (.project k plan context) s = .next (s.taken 0x37 .notFound []))
            ∧ ((∀ x, n = some x → s.consignment? x ≠ none) → s.driverHeld k = true →
              exec (.project k plan context) s = .next (s.taken 0x37 .busy []))
            ∧ ((∀ x, n = some x → s.consignment? x ≠ none) → s.driverHeld k = false → d.state = .dispatched →
              exec (.project k plan context) s = .next (s.taken 0x37 .wrongState []))
            ∧ (s.driverHeld k = false → d.state ≠ .dispatched →
              (n = none → ∃ t, exec (.project k plan context) s = .next t
                ∧ t.driver? k = some { d with projection := some (s.projectionAlone d plan) }
                ∧ s.keepsOtherDrivers k t ∧ s.keepsAllBut [.drivers, .port] t
                ∧ t.lastResponse? = some
                    { code := 0x37, result := .ok, payload := projectionBytes (s.projectionAlone d plan) })
              ∧ (∀ x c, n = some x → s.consignment? x = some c → ∃ t, exec (.project k plan context) s = .next t
                ∧ t.driver? k = some { d with projection := some (s.projectionWith d plan c) }
                ∧ s.keepsOtherDrivers k t ∧ s.keepsAllBut [.drivers, .port] t
                ∧ t.lastResponse? = some
                    { code := 0x37, result := .ok, payload := projectionBytes (s.projectionWith d plan c) }))))

/-- R8, R38, R69, R71, R86, R139: the commands that name a record the evaluation in flight holds are refused BUSY and change
nothing. -/
def Obligations.HeldRecordsAnswerBusy : Prop :=
  ∀ s : State, s.port.executing = false →
    (∀ k d, 1 ≤ k → k ≤ 4294967294 → s.driver? k = some d → s.driverHeld k = true →
      exec (.holdDriver k) s = .next (s.taken 0x32 .busy [])
      ∧ exec (.freeDriver k) s = .next (s.taken 0x33 .busy [])
      ∧ exec (.retireDriver k) s = .next (s.taken 0x34 .busy [])
      ∧ (∀ a : Accounts, s.clock.unset = false → a.driveDay ≤ 1440 → a.driveCont ≤ 1440 → a.dutyShift ≤ 1440 →
          a.drivePeriod ≤ 10080 → exec (.updateSummary k a) s = .next (s.taken 0x31 .busy [])))
    ∧ (∀ k u c, 1 ≤ k → k ≤ 16777215 → s.tanker? k = some u → s.tankerHeld k = true →
      exec (.retireUnit k) s = .next (s.taken 0x42 .busy [])
      ∧ (1 ≤ c → c ≤ 8 → c ≤ u.compartments.length → exec (.markClean k c) s = .next (s.taken 0x41 .busy [])))
    ∧ (∀ k c, 1 ≤ k → k ≤ 4294967294 → s.consignment? k = some c → s.consignmentHeld k = true →
      exec (.voidConsignment k) s = .next (s.taken 0x54 .busy [])
      ∧ (c.state = .complete → exec (.release k) s = .next (s.taken 0x55 .busy []))
      ∧ (∀ n l, 1 ≤ n → n ≤ 8 → c.line? n = some l →
          (∀ v, 1 ≤ v → v ≤ 20000 → exec (.amendLine k n v) s = .next (s.taken 0x51 .busy []))
          ∧ exec (.cancelLine k n) s = .next (s.taken 0x52 .busy [])
          ∧ exec (.closeShort k n) s = .next (s.taken 0x53 .busy [])))
    ∧ (∀ (a : OpenArgs) (u : Tanker), OpenFormSound a → s.consignment? a.number = none → s.consignments.length < 32 →
        s.tanker? a.tanker = some u →
        (s.tankerHeld a.tanker = true → exec (.openConsignment a) s = .next (s.taken 0x50 .busy []))
        ∧ (∀ d, s.tankerHeld a.tanker = false → u.state = .idle → s.driver? a.card = some d →
            s.driverHeld a.card = true → exec (.openConsignment a) s = .next (s.taken 0x50 .busy [])))

/-- R26: three slacks by their formulas, and the ranges they always lie within. -/
def Obligations.SlacksFollowTheAccounts : Prop :=
  ∀ (s : State) (d : Driver) (plan : RoundPlan) (loading : Nat) (dangerous : Bool),
    let limits := s.store.settings.limits
    let p := s.projection d plan loading dangerous
    (p.slackDuty = limits.sDuty - (dutyEff d s.clock.minute + loading + plan.duty : Nat)
      ∧ p.slackDay = limits.dDay - (d.accounts.driveDay + plan.drive : Nat)
      ∧ p.slackPeriod = limits.wDrive - (d.accounts.drivePeriod + plan.drive : Nat))
    ∧ (limits.Sound → d.accounts.driveDay ≤ 1440 → d.accounts.drivePeriod ≤ 10080 → loading ≤ 1440 →
        1 ≤ plan.drive → plan.drive ≤ 900 → plan.drive ≤ plan.duty → plan.duty ≤ 1440 →
        (-4200 ≤ p.slackDuty ∧ p.slackDuty ≤ 1080) ∧ (-2280 ≤ p.slackDay ∧ p.slackDay ≤ 900)
          ∧ (-10380 ≤ p.slackPeriod ∧ p.slackPeriod ≤ 6000))

/-- R28: the min slack is the least of the four, and the binding limit the first slack that equals it in the order DAY,
CONT, DUTY, PERIOD. -/
def Obligations.BindingLimitNamesTheLeastSlack : Prop :=
  ∀ (s : State) (d : Driver) (plan : RoundPlan) (loading : Nat) (dangerous : Bool),
    let p := s.projection d plan loading dangerous
    (p.minSlack ≤ p.slackDuty ∧ p.minSlack ≤ p.slackDay ∧ p.minSlack ≤ p.slackPeriod ∧ p.minSlack ≤ p.slackCont)
    ∧ (p.minSlack = p.slackDuty ∨ p.minSlack = p.slackDay ∨ p.minSlack = p.slackPeriod ∨ p.minSlack = p.slackCont)
    ∧ (p.binding = .day ↔ p.slackDay = p.minSlack)
    ∧ (p.binding = .cont ↔ p.slackDay ≠ p.minSlack ∧ p.slackCont = p.minSlack)
    ∧ (p.binding = .duty ↔ p.slackDay ≠ p.minSlack ∧ p.slackCont ≠ p.minSlack ∧ p.slackDuty = p.minSlack)
    ∧ (p.binding = .period ↔ p.slackDay ≠ p.minSlack ∧ p.slackCont ≠ p.minSlack ∧ p.slackDuty ≠ p.minSlack)

/-! ## Units -/

/-- R36, R43, R47, R48: admission, cleaning and retirement of a unit, with the reference counts they move. -/
def Obligations.UnitCommandsActOnOneUnit : Prop :=
  ∀ (s : State) (k : Nat), s.port.executing = false → 1 ≤ k → k ≤ 16777215 →
    (∀ (mp : Nat) (cs : List CompartmentArgs), 1000 ≤ mp → mp ≤ 60000 → 1 ≤ cs.length → cs.length ≤ 8 →
      (∀ a ∈ cs, 500 ≤ a.capacity ∧ a.capacity ≤ 20000
        ∧ (a.lastProduct = 0 ∨ (1 ≤ a.lastProduct ∧ a.lastProduct ≤ 64 ∧ (s.product a.lastProduct).defined = true))) →
      s.tanker? k = none → s.tankers.length < 32 →
      ∃ t, exec (.admitUnit k cs.length mp cs) s = .next t
        ∧ t.tanker? k = some
            { number := k, maxPayload := mp, state := .idle, bay := none,
              compartments := cs.map (fun a =>
                { capacity := a.capacity, lastProduct := if a.lastProduct = 0 then none else some a.lastProduct,
                  drained := false }) }
        ∧ (∀ code, 1 ≤ code → code ≤ 64 →
            t.refCount code = s.refCount code + (cs.map (·.lastProduct)).count code)
        ∧ s.keepsOtherTankers k t ∧ s.keepsAllBut [.tankers, .refCounts, .port] t
        ∧ t.lastResponse? = some { code := 0x40, result := .ok, payload := [] })
    ∧ (∀ u c x, s.tanker? k = some u → 1 ≤ c → c ≤ 8 → u.compartment? c = some x → s.tankerHeld k = false →
        (∀ con ∈ s.consignments, con.tanker = k → ∀ l ∈ con.lines, l.compartment = c → l.loaded = 0) →
        ∃ t v, exec (.markClean k c) s = .next t ∧ t.tanker? k = some v
          ∧ v.compartment? c = some { x with lastProduct := none, drained := false }
          ∧ (∀ j, j ≠ c → v.compartment? j = u.compartment? j)
          ∧ v.state = u.state ∧ v.bay = u.bay ∧ v.maxPayload = u.maxPayload
          ∧ (∀ code, 1 ≤ code → code ≤ 64 →
              t.refCount code = if x.lastProduct = some code then s.refCount code - 1 else s.refCount code)
          ∧ s.keepsOtherTankers k t ∧ s.keepsAllBut [.tankers, .refCounts, .port] t
          ∧ t.lastResponse? = some { code := 0x41, result := .ok, payload := [] })
    ∧ (∀ u, s.tanker? k = some u → s.tankerHeld k = false → u.bay = none →
        (u.state = .idle →
          ∃ t, exec (.retireUnit k) s = .next t ∧ t.tanker? k = none ∧ s.keepsOtherTankers k t
            ∧ (∀ code, 1 ≤ code → code ≤ 64 → t.refCount code = s.refCount code - u.marks.count code)
            ∧ s.keepsAllBut [.tankers, .refCounts, .port] t
            ∧ t.lastResponse? = some { code := 0x42, result := .ok, payload := [0, 0, 0, 0, 0] })
        ∧ (∀ con, u.state = .released → s.consignmentOf? k = some con →
          ∃ t, exec (.retireUnit k) s = .next t ∧ t.tanker? k = none ∧ t.consignment? con.number = none
            ∧ s.keepsOtherTankers k t ∧ s.keepsOtherConsignments con.number t ∧ s.keepsOtherDrivers con.driver t
            ∧ t.driver? con.driver = (s.driver? con.driver).map (fun d => { d with consignment := none })
            ∧ (∀ code, 1 ≤ code → code ≤ 64 →
                t.refCount code = s.refCount code - (u.marks ++ con.products).count code)
            ∧ s.keepsAllBut [.drivers, .tankers, .consignments, .refCounts, .port] t
            ∧ t.lastResponse? = some { code := 0x42, result := .ok, payload := u8 1 ++ u32 con.number }))

/-! ## Consignments -/

/-- R69, R70, R45: an accepted opening creates the consignment, counts its products, and assigns its unit and driver. -/
def Obligations.OpeningAssignsUnitAndDriver : Prop :=
  ∀ (s : State) (a : OpenArgs) (u : Tanker) (d : Driver), s.port.executing = false →
    1 ≤ a.number → a.number ≤ 4294967294 → 1 ≤ a.card → a.card ≤ 4294967294 → 1 ≤ a.tanker → a.tanker ≤ 16777215 →
    1 ≤ a.plan.drive → a.plan.drive ≤ 900 → a.plan.drive ≤ a.plan.duty → a.plan.duty ≤ 1440 → 1 ≤ a.plan.longestLeg →
    a.plan.longestLeg ≤ a.plan.drive → a.destination.presence ≤ 1 → a.lineCount = a.lines.length → 1 ≤ a.lineCount →
    a.lineCount ≤ 8 →
    (∀ l ∈ a.lines, 1 ≤ l.product ∧ l.product ≤ 64 ∧ 1 ≤ l.ordered ∧ l.ordered ≤ 20000 ∧ l.compartment ≤ 8
      ∧ (s.product l.product).defined = true
      ∧ ∃ x, u.compartment? l.compartment = some x ∧ l.ordered ≤ x.capacity) →
    (a.lines.map (·.compartment)).Nodup →
    s.consignment? a.number = none → s.consignments.length < 32 → s.tanker? a.tanker = some u →
    s.tankerHeld a.tanker = false → u.state = .idle → s.driver? a.card = some d → s.driverHeld a.card = false →
    d.state = .onSite →
    let lines : List Line := a.lines.map (fun l =>
      { compartment := l.compartment, product := l.product, ordered := l.ordered, loaded := 0, state := .planned,
        cause := none, lastPermit := none })
    let kg := (a.lines.map (fun l => (l.ordered * (s.product l.product).density + 999) / 1000)).sum
    s.planTimeTest lines = true → kg ≤ u.maxPayload →
    ∃ t, exec (.openConsignment a) s = .next t
      ∧ t.consignment? a.number = some
          { number := a.number, tanker := a.tanker, driver := a.card, plan := a.plan,
            destination := if a.destination.presence = 1 then some a.destination.value else none, state := .opened,
            lines := lines, image := none }
      ∧ s.keepsOtherConsignments a.number t
      ∧ t.tanker? a.tanker = some { u with state := .planned } ∧ s.keepsOtherTankers a.tanker t
      ∧ t.driver? a.card = some { d with state := .assigned, consignment := some a.number }
      ∧ s.keepsOtherDrivers a.card t
      ∧ (∀ code, 1 ≤ code → code ≤ 64 → t.refCount code = s.refCount code + (a.lines.map (·.product)).count code)
      ∧ s.keepsAllBut [.drivers, .tankers, .consignments, .refCounts, .slots, .bus, .gantryFlags, .attn, .port] t
      ∧ t.lastResponse? = some { code := 0x50, result := .ok, payload := u24 kg }

/-- R61: the plan-time test passes exactly when no two lines that are not CANCELLED relate EXCLUDE, and no two on adjacent
compartments relate APART. -/
def Obligations.PlanTimeTestJudgesEveryPair : Prop :=
  ∀ (s : State) (lines : List Line), s.planTimeTest lines = true ↔
    (lines.filter (fun l => l.state != .cancelled)).Pairwise (fun a b =>
      s.relationOf a.product b.product ≠ .exclude
        ∧ ((a.compartment = b.compartment + 1 ∨ b.compartment = a.compartment + 1) →
            s.relationOf a.product b.product ≠ .apart))

/-- R72, R73, R74, R75: amending, cancelling and closing short one line; no other line is touched, and the complete test
decides the consignment's state. -/
def Obligations.LineCommandsActOnOneLine : Prop :=
  ∀ (s : State) (n k : Nat) (c : Consignment) (l : Line), s.port.executing = false → 1 ≤ n → n ≤ 4294967294 → 1 ≤ k →
    k ≤ 8 → s.consignment? n = some c → c.line? k = some l → s.consignmentHeld n = false →
    (∀ v, 1 ≤ v → v ≤ 20000 → (l.state = .planned ∨ l.state = .stalled) → l.loaded ≤ v → v ≤ s.capacity c.tanker k →
      let kg := ((c.lines.filter (fun m => m.state != .cancelled)).map (fun m =>
        ((if m.compartment = k then v else m.ordered) * (s.product m.product).density + 999) / 1000)).sum
      (kg ≤ s.maxPayloadOf c.tanker →
        ∃ t, exec (.amendLine n k v) s = .next t ∧ t.line? n k = some { l with ordered := v } ∧ s.keepsOtherLines n k t
          ∧ s.keepsOtherConsignments n t ∧ s.keepsAllBut [.consignments, .port] t
          ∧ t.lastResponse? = some { code := 0x51, result := .ok, payload := u24 kg ++ u8 l.state.code })
      ∧ (s.maxPayloadOf c.tanker < kg → exec (.amendLine n k v) s = .next (s.taken 0x51 .overload [])))
    ∧ (l.state = .planned →
        ∃ t, exec (.cancelLine n k) s = .next t ∧ t.line? n k = some { l with state := .cancelled }
          ∧ s.keepsOtherLines n k t ∧ s.keepsOtherConsignments n t
          ∧ s.keepsAllBut [.consignments, .slots, .bus, .gantryFlags, .attn, .port] t
          ∧ (t.consignment? n).map (·.state) = some (
              if c.state = .opened ∧ (c.mapLine k (fun l => { l with state := .cancelled })).allEnded = true then .complete
              else c.state)
          ∧ t.lastResponse? = some
              { code := 0x52, result := .ok,
                payload := u8 (((t.consignment? n).map (·.state.code)).getD 0) })
    ∧ (l.state ≠ .planned → exec (.cancelLine n k) s = .next (s.taken 0x52 .wrongState []))
    ∧ (l.state = .stalled →
        ∃ t, exec (.closeShort n k) s = .next t ∧ t.line? n k = some { l with state := .shortClosed }
          ∧ s.keepsOtherLines n k t ∧ s.keepsOtherConsignments n t
          ∧ s.keepsAllBut [.consignments, .stallTable, .slots, .bus, .gantryFlags, .attn, .port] t
          ∧ (∀ e, e ∈ t.filling.stallTable ↔
              e ∈ s.filling.stallTable ∧ ¬ (e.consignment = n ∧ e.compartment = k))
          ∧ (t.consignment? n).map (·.state) = some (
              if c.state = .opened ∧ (c.mapLine k (fun l => { l with state := .shortClosed })).allEnded = true then .complete
              else c.state)
          ∧ t.lastResponse? = some
              { code := 0x53, result := .ok,
                payload := u16 l.loaded ++ u8 (((t.consignment? n).map (·.state.code)).getD 0) })
    ∧ (l.state ≠ .stalled → exec (.closeShort n k) s = .next (s.taken 0x53 .wrongState []))

/-- R77, R78: an accepted void removes the consignment and returns its unit and driver. -/
def Obligations.VoidReturnsUnitAndDriver : Prop :=
  ∀ (s : State) (n : Nat) (c : Consignment), s.port.executing = false → 1 ≤ n → n ≤ 4294967294 →
    s.consignment? n = some c → s.consignmentHeld n = false → c.state ≠ .released →
    ((∀ l ∈ c.lines, l.loaded = 0 ∧ l.state ≠ .authorised ∧ l.state ≠ .filling) →
      ∃ t, exec (.voidConsignment n) s = .next t ∧ t.consignment? n = none ∧ s.keepsOtherConsignments n t
        ∧ t.tanker? c.tanker = (s.tanker? c.tanker).map (fun u => { u with state := .idle })
        ∧ s.keepsOtherTankers c.tanker t
        ∧ t.driver? c.driver = (s.driver? c.driver).map (fun d => { d with state := .onSite, consignment := none })
        ∧ s.keepsOtherDrivers c.driver t
        ∧ (∀ code, 1 ≤ code → code ≤ 64 → t.refCount code = s.refCount code - (c.lines.map (·.product)).count code)
        ∧ (∀ e, e ∈ t.filling.stallTable ↔ e ∈ s.filling.stallTable ∧ e.consignment ≠ n)
        ∧ s.keepsAllBut [.drivers, .tankers, .consignments, .refCounts, .stallTable, .slots, .bus, .gantryFlags, .attn,
            .port] t
        ∧ t.lastResponse? = some { code := 0x54, result := .ok, payload := [] })
    ∧ ((∃ l ∈ c.lines, 0 < l.loaded ∨ l.state = .authorised ∨ l.state = .filling) →
        exec (.voidConsignment n) s = .next (s.taken 0x54 .inUse []))

/-- R79, R139 to R143, R46: a release past check 4 is judged on a fresh projection and the loaded payload; accepted, it
fixes the papers, marks the compartments and dispatches the driver in one step. -/
def Obligations.ReleaseFixesPapersAndDispatches : Prop :=
  ∀ (s : State) (n : Nat) (c : Consignment) (d : Driver) (u : Tanker), s.port.executing = false → 1 ≤ n →
    n ≤ 4294967294 → s.consignment? n = some c → c.state = .complete → s.consignmentHeld n = false →
    s.driver? c.driver = some d → d.state = .assigned → d.hold = false → s.tanker? c.tanker = some u →
    let p := s.projection d c.plan 0 (c.lines.any (fun l => l.state != .cancelled && (s.product l.product).hazard != 0))
    let kg := ((c.lines.filter (fun l => l.state != .cancelled)).map (fun l =>
      (l.loaded * (s.product l.product).density + 999) / 1000)).sum
    let loadedLines := c.lines.filter (fun l => l.loaded > 0)
    let stored := s.updateDriver c.driver (fun d => { d with projection := some p })
    let verdict := u8 p.verdict.code ++ i16 p.minSlack ++ u8 p.binding.code ++ u8 p.expiry.code
    (p.expiry = .expired → exec (.release n) s = .next (stored.taken 0x55 .expired verdict))
    ∧ (p.expiry = .valid → p.verdict = .short →
        exec (.release n) s = .next ((stored.raiseGantry .hoursShort).taken 0x55 .hours verdict))
    ∧ (p.expiry = .valid → p.verdict ≠ .short → u.maxPayload < kg →
        exec (.release n) s = .next (stored.taken 0x55 .overload (u24 kg)))
    ∧ (p.expiry = .valid → p.verdict ≠ .short → kg ≤ u.maxPayload → (c.lines.map (·.compartment)).Nodup →
        ∃ t image v, exec (.release n) s = .next t
          ∧ t.consignment? n = some { c with state := .released, image := some image } ∧ s.keepsOtherConsignments n t
          ∧ image.consignment = c.number ∧ image.tanker = c.tanker ∧ image.card = c.driver
          ∧ image.destination = c.destination ∧ image.releaseMinute = s.clock.minute
          ∧ (image.entries.map (·.compartment)).Pairwise (· < ·) ∧ image.entries.length = loadedLines.length
          ∧ (∀ l ∈ loadedLines,
              ({ compartment := l.compartment, product := l.product, un := (s.product l.product).un,
                 hazard := (s.product l.product).hazard, subsidiary := (s.product l.product).subsidiary,
                 packing := (s.product l.product).packing, loaded := l.loaded } : PaperEntry) ∈ image.entries)
          ∧ t.tanker? c.tanker = some v ∧ v.state = .released ∧ v.bay = u.bay ∧ v.maxPayload = u.maxPayload
          ∧ s.keepsOtherTankers c.tanker t
          ∧ (∀ j x, u.compartment? j = some x → v.compartment? j = some
              { x with
                lastProduct := match loadedLines.find? (fun l => l.compartment == j) with
                  | some l => some l.product
                  | none => x.lastProduct
                drained := false })
          ∧ t.driver? c.driver = some
              { d with
                state := .dispatched, arrival := none, projection := some p
                committed := some { drive := c.plan.drive, duty := c.plan.duty, stamp := s.clock.minute } }
          ∧ s.keepsOtherDrivers c.driver t
          ∧ s.keepsAllBut [.drivers, .tankers, .consignments, .refCounts, .port] t
          ∧ t.lastResponse? = some
              { code := 0x55, result := .ok,
                payload := u8 loadedLines.length ++ u24 (loadedLines.map (·.loaded)).sum ++ u8 p.verdict.code
                  ++ i16 p.minSlack ++ u8 p.binding.code })

/-! ## Load authorisation -/

/-- R84, R85, R89: a request joins the queue and its evaluation begins when none is in flight, or is refused PENDING; the
completion of a dropped evaluation runs no check. -/
def Obligations.RequestsQueueAndEvaluationsBegin : Prop :=
  ∀ s : State,
    (∀ (b : Bay) (c : Nat), s.hears b → c ≤ 8 →
      ((∀ e ∈ s.engine.queue, e.bay ≠ b) →
        ∃ t, exec (.loadRequest b c) s = .next t ∧ t.engine.queue = s.engine.queue ++ [{ bay := b, compartment := c }]
          ∧ t.engine.counter = s.engine.counter
          ∧ (∀ e, s.engine.evaluation = some e → t.engine.evaluation = some e)
          ∧ (s.engine.evaluation = none → s.engine.queue = [] →
              t.engine.evaluation = some
                { bay := b, compartment := c, dropped := false, heldTanker := (s.judgedTanker? b).map (·.number),
                  heldConsignment := (s.judgedConsignment? b).map (·.number),
                  heldDriver := (s.judgedConsignment? b).map (·.driver) })
          ∧ s.keepsAllBut [.engine, .bus] t)
      ∧ ((∃ e ∈ s.engine.queue, e.bay = b) →
        ∃ t, exec (.loadRequest b c) s = .next t ∧ (t.slot b).lastRefusal = some { compartment := c, reason := .pending }
          ∧ (t.slot b).call = .flash ∧ t.bayFlag b .refused = true ∧ s.keepsOtherBays b t
          ∧ s.keepsAllBut [.slots, .bus, .gantryFlags, .bayFlags, .attn] t))
    ∧ (∀ e, s.engine.evaluation = some e → e.dropped = true →
        ∃ t, exec .droppedEvaluationCompletion s = .next t ∧ t.engine.queue = s.engine.queue
          ∧ t.engine.counter = s.engine.counter
          ∧ t.engine.evaluation.map (fun x => (x.bay, x.compartment, x.dropped))
              = s.engine.queue.head?.map (fun x => (x.bay, x.compartment, false))
          ∧ s.keepsAllBut [.engine, .bus] t)

/-- R90 to R103: a completion refuses with the reason of the first check that fails, or issues the permit with the first free
number from the counter, its thresholds, the PERMIT message and every change of R102; either way the evaluation ends and the
next entry at the head begins (R85). A consignment whose driver record is missing fails check 6 (the model's choice,
assumption 15). -/
def Obligations.CompletionFollowsTheCheckTable : Prop :=
  ∀ (s : State) (e : Evaluation), s.engine.evaluation = some e → e.dropped = false →
    let b := e.bay
    (∀ r, firstFailing (s.checkTable b e.compartment) = some r →
      ∃ t, exec .evaluationCompletion s = .next t
        ∧ (t.slot b).lastRefusal = some { compartment := e.compartment, reason := r }
        ∧ (t.slot b).call = .flash ∧ t.bayFlag b .refused = true ∧ (t.slot b).state = (s.slot b).state
        ∧ t.engine.queue = s.engine.queue.filter (fun x => x.bay != b) ∧ t.engine.counter = s.engine.counter
        ∧ t.engine.evaluation = t.engine.queue.head?.map t.evaluationFor
        ∧ s.keepsOtherBays b t
        ∧ s.keepsAllBut [.drivers, .engine, .slots, .bus, .gantryFlags, .bayFlags, .attn] t)
    ∧ (∀ u c l d p, firstFailing (s.checkTable b e.compartment) = none → s.judgedTanker? b = some u →
        s.judgedConsignment? b = some c → s.judgedLine? b e.compartment = some l → s.judgedDriver? b = some d →
        s.judgedProjection? b = some p → s.consignment? c.number = some c →
        ∃ t q, exec .evaluationCompletion s = .next t
          ∧ t.permitSlot b = { permit := some q, lastReading := none, flow := none,
                               timer := some ((s.settingsOf b).initialTimeout * 1000), output := true }
          ∧ q.consignment = c.number ∧ q.line = l.compartment ∧ q.base = l.loaded ∧ q.issueMinute = s.clock.minute
          ∧ q.slack = p.minSlack
          ∧ (q.stopPoint : Int) = s.judgedTarget u l - (s.settingsOf b).allowance
          ∧ q.slowdownPoint = q.stopPoint - (s.settingsOf b).slowdown
          ∧ (∃ k, q.number = numberOn s.engine.counter k ∧ ¬ s.numberLive q.number
              ∧ ∀ j, j < k → s.numberLive (numberOn s.engine.counter j))
          ∧ t.engine.counter = numberAfter q.number
          ∧ ((s.waitingOf b).length < 4 →
              .permit q.number l.compartment l.product q.stopPoint q.slowdownPoint ∈ t.toStation b)
          ∧ (4 ≤ (s.waitingOf b).length → t.gantryFlag .queueFull = true)
          ∧ t.engine.queue = s.engine.queue.filter (fun x => x.bay != b)
          ∧ t.engine.evaluation = t.engine.queue.head?.map t.evaluationFor
          ∧ t.line? c.number l.compartment = some
              { l with state := .authorised, cause := none, lastPermit := some q.number }
          ∧ (∀ x ∈ t.filling.stallTable, ¬ (x.consignment = c.number ∧ x.compartment = l.compartment))
          ∧ (t.slot b).state = .loading ∧ (t.slot b).link = .up ∧ (t.slot b).go = .on
          ∧ (t.slot b).lockDesired = .engaged
          ∧ t.driver? d.card = some { d with projection := some p }
          ∧ (p.verdict = .tight → t.gantryFlag .hoursTight = true)
          ∧ s.keepsOtherBays b t
          ∧ s.keepsAllBut [.drivers, .consignments, .engine, .permits, .stallTable, .slots, .bus, .gantryFlags, .attn] t)

/-! ## Filling supervision -/

/-- R107 to R111: a report for the live permit raises the loaded volume and is tested against capacity and order; a late
report raises a STALLED line's volume and never restores a permit; any other report is ignored. A line's first product sets
drained to no on its compartment (R42), and a line made FILLED gets the complete test (R75). -/
def Obligations.ReportsRaiseTheLoadedVolume : Prop :=
  ∀ (s : State) (b : Bay) (n m : Nat) (flow : Flow), s.hears b → n ≤ 65535 → m ≤ 65535 →
    (∀ p c l, (s.permitSlot b).permit = some p → p.number = n → s.consignment? p.consignment = some c →
      c.line? p.line = some l →
      let sum := p.base + m
      let loaded := if l.loaded < sum then min sum 65535 else l.loaded
      let cap := s.capacity c.tanker p.line
      let most := l.ordered + s.store.settings.limits.tolerance
      let first := decide (l.loaded = 0 ∧ 0 < sum)
      (sum ≤ cap → sum ≤ most →
        ∃ t, exec (.progress b n m flow) s = .next t
          ∧ t.permitSlot b = { s.permitSlot b with
              lastReading := some m, flow := some flow, timer := some ((s.settingsOf b).progressTimeout * 1000) }
          ∧ t.line? p.consignment p.line = some
              { l with loaded := loaded, state := if l.state = .authorised then .filling else l.state }
          ∧ s.keepsTankersBut c.tanker p.line first t ∧ (t.consignment? p.consignment).map (·.state) = some c.state
          ∧ s.keepsOtherLines p.consignment p.line t ∧ s.keepsOtherBays b t
          ∧ s.keepsAllBut [.tankers, .consignments, .permits, .bus] t)
      ∧ (cap < sum →
        ∃ t, exec (.progress b n m flow) s = .next t ∧ (t.permitSlot b).permit = none ∧ (t.permitSlot b).output = false
          ∧ t.line? p.consignment p.line = some { l with loaded := loaded, state := .stalled, cause := some .overfill }
          ∧ ({ consignment := p.consignment, compartment := p.line, permit := p.number, base := p.base } : StallEntry)
              ∈ t.filling.stallTable
          ∧ t.bayFlag b .overfill = true ∧ t.bayFlag b .permitEnded = true
          ∧ s.keepsTankersBut c.tanker p.line first t ∧ (t.consignment? p.consignment).map (·.state) = some c.state
          ∧ s.keepsOtherLines p.consignment p.line t ∧ s.keepsOtherBays b t)
      ∧ (sum ≤ cap → most < sum →
        ∃ t, exec (.progress b n m flow) s = .next t ∧ (t.permitSlot b).permit = none ∧ (t.permitSlot b).output = false
          ∧ t.line? p.consignment p.line = some { l with loaded := loaded, state := .filled, cause := none }
          ∧ t.filling.stallTable = s.filling.stallTable
          ∧ t.bayFlag b .overrun = true ∧ t.bayFlag b .permitEnded = true
          ∧ s.keepsTankersBut c.tanker p.line first t
          ∧ (t.consignment? p.consignment).map (·.state) = some (
              if c.state = .opened ∧ (c.mapLine p.line (fun x =>
                { x with loaded := if x.loaded < sum then min sum 65535 else x.loaded, state := .filled, cause := none })).allEnded
                  = true then .complete else c.state)
          ∧ s.keepsOtherLines p.consignment p.line t))
    ∧ (∀ e c l, (∀ p, (s.permitSlot b).permit = some p → p.number ≠ n) → s.lateEntry b n = some e →
        s.consignment? e.consignment = some c → c.line? e.compartment = some l →
        let sum := e.base + m
        let loaded := if l.loaded < sum then min sum 65535 else l.loaded
        let cap := s.capacity c.tanker e.compartment
        ∃ t, exec (.progress b n m flow) s = .next t
          ∧ t.line? e.consignment e.compartment = some
              { l with loaded := loaded, cause := if cap < sum then some .overfill else l.cause }
          ∧ t.attention.bays.look b = s.attention.bays.look b |||
              (if cap < sum then 0x0010
               else if l.ordered + s.store.settings.limits.tolerance < sum then 0x0008 else 0x0000)
          ∧ s.keepsTankersBut c.tanker e.compartment (decide (l.loaded = 0 ∧ 0 < sum)) t
          ∧ s.keepsOtherLines e.consignment e.compartment t ∧ s.keepsOtherBays b t
          ∧ s.keepsAllBut [.tankers, .consignments, .bus, .bayFlags, .attn] t)
    ∧ ((∀ p, (s.permitSlot b).permit = some p → p.number ≠ n) → s.lateEntry b n = none →
        exec (.progress b n m flow) s = .next (s.withBus { s.bus with grant := none }).pick)

/-- R114, R116: the four ends a FINISH gives the line, and a FINISH that names no live permit. A line's first product sets
drained to no on its compartment (R42), and a line made FILLED gets the complete test (R75). -/
def Obligations.FinishDecidesTheLinesEnd : Prop :=
  ∀ (s : State) (b : Bay) (n f : Nat), s.hears b → n ≤ 65535 → f ≤ 65535 →
    (∀ p c l, (s.permitSlot b).permit = some p → p.number = n → s.consignment? p.consignment = some c →
      c.line? p.line = some l →
      let sum := p.base + f
      let loaded := if l.loaded < sum then min sum 65535 else l.loaded
      let cap := s.capacity c.tanker p.line
      let tolerance := s.store.settings.limits.tolerance
      ∃ t, exec (.finish b n f) s = .next t
        ∧ t.permitSlot b = { permit := none, lastReading := none, flow := none, timer := none, output := false }
        ∧ t.bayFlag b .permitEnded = true
        ∧ t.line? p.consignment p.line = some (
            if cap < sum then { l with loaded := loaded, state := .stalled, cause := some .overfill }
            else if l.ordered ≤ loaded + tolerance then { l with loaded := loaded, state := .filled, cause := none }
            else { l with loaded := loaded, state := .stalled, cause := some .shortFinish })
        ∧ (cap < sum → t.bayFlag b .overfill = true)
        ∧ (sum ≤ cap → l.ordered ≤ loaded + tolerance → l.ordered + tolerance < sum → t.bayFlag b .overrun = true)
        ∧ s.keepsTankersBut c.tanker p.line (decide (l.loaded = 0 ∧ 0 < sum)) t
        ∧ (t.consignment? p.consignment).map (·.state) = some (
            if sum ≤ cap ∧ l.ordered ≤ loaded + tolerance ∧ c.state = .opened ∧ (c.mapLine p.line (fun x =>
              { x with loaded := if x.loaded < sum then min sum 65535 else x.loaded, state := .filled, cause := none })).allEnded
                = true then .complete else c.state)
        ∧ ((cap < sum ∨ loaded + tolerance < l.ordered) →
            ({ consignment := p.consignment, compartment := p.line, permit := p.number, base := p.base } : StallEntry)
              ∈ t.filling.stallTable)
        ∧ s.keepsOtherLines p.consignment p.line t ∧ t.clock = s.clock ∧ t.drivers = s.drivers ∧ t.store = s.store
        ∧ t.engine = s.engine ∧ t.port = s.port ∧ t.filling.esd = s.filling.esd)
    ∧ ((∀ p, (s.permitSlot b).permit = some p → p.number ≠ n) →
        exec (.finish b n f) s = .next (s.withBus { s.bus with grant := none }).pick)

/-- R113, R115, R116, R118 to R120, R124, R126, R127, R130, R131, R136: every event of the table of R115 ends the bay's live
permit with its own cause: the PERMIT output off, the line STALLED, at its loaded volume but for OVERFILL, whose report raises
it first (R109), the stall table entry made, a CLOSE queued while the station stays UP, and PERMIT_ENDED raised. -/
def Obligations.StallingEventsEndThePermit : Prop :=
  ∀ (s : State) (b : Bay) (p : Permit) (l : Line) (i : Instr) (cause : Cause), StallingEvent s b p i cause →
    (s.permitSlot b).permit = some p → s.line? p.consignment p.line = some l →
    ∃ t loaded, exec i s = .next t
      ∧ t.permitSlot b = { permit := none, lastReading := none, flow := none, timer := none, output := false }
      ∧ t.line? p.consignment p.line = some { l with loaded := loaded, state := .stalled, cause := some cause }
      ∧ (cause ≠ .overfill → loaded = l.loaded)
      ∧ ({ consignment := p.consignment, compartment := p.line, permit := p.number, base := p.base } : StallEntry)
          ∈ t.filling.stallTable
      ∧ t.bayFlag b .permitEnded = true ∧ (t.slot b).state ≠ .loading
      ∧ (cause ≠ .station → cause ≠ .bayReset → (s.slot b).link = .up →
          ((s.waitingOf b).length < 4 → .close p.number ∈ t.toStation b)
          ∧ (4 ≤ (s.waitingOf b).length → t.gantryFlag .queueFull = true))
      ∧ (cause = .stopButton ∨ cause = .meterFault → t.bayFlag b .stopped = true)
      ∧ (cause = .overfill → t.bayFlag b .overfill = true)
      ∧ (cause = .hostStop → t.lastResponse? = some
          { code := 0x62, result := .ok, payload := u16 p.number ++ u8 p.line ++ u16 l.loaded })
      ∧ (cause ≠ .esd → s.keepsOtherBays b t ∧ s.keepsOtherLines p.consignment p.line t ∧ t.filling.esd = s.filling.esd)
      ∧ t.clock = s.clock ∧ t.drivers = s.drivers ∧ t.refCounts = s.refCounts
      ∧ ((∀ a, i ≠ .setBay b.num a) → t.store = s.store)

/-- R120, R121, R130, R131: the emergency shutdown ends every live permit and raises ESD_CHANGED; its release restarts
nothing; the clamp and probe fields follow their inputs. -/
def Obligations.InputsAreFollowed : Prop :=
  ∀ s : State,
    (s.filling.esd = false →
      ∃ t, exec .esdAssertion s = .next t ∧ t.filling.esd = true ∧ t.gantryFlag .esdChanged = true
        ∧ (∀ b : Bay, (t.permitSlot b).permit = none)
        ∧ s.keepsAllBut [.consignments, .permits, .stallTable, .esd, .slots, .bus, .gantryFlags, .bayFlags, .attn] t)
    ∧ (s.filling.esd = true →
        exec .esdRelease s = .next ((s.withFilling { s.filling with esd := false }).raiseGantry .esdChanged))
    ∧ (∀ (b : Bay) (x : Clamp), (s.slot b).clamp ≠ x →
        ∃ t, exec (.clampChange b x) s = .next t ∧ (t.slot b).clamp = x ∧ (t.slot b).probe = (s.slot b).probe
          ∧ t.bayFlag b .clampChanged = true ∧ s.keepsOtherBays b t
          ∧ (x = .closed → s.keepsAllBut [.slots, .bus, .gantryFlags, .bayFlags, .attn] t))
    ∧ (∀ (b : Bay) (x : Probe), (s.slot b).probe ≠ x →
        ∃ t, exec (.probeChange b x) s = .next t ∧ (t.slot b).probe = x ∧ (t.slot b).clamp = (s.slot b).clamp
          ∧ (x = .tripped → t.bayFlag b .probeTripped = true) ∧ s.keepsOtherBays b t
          ∧ (x = .healthy → s.keepsAllBut [.slots, .bus, .gantryFlags, .attn] t))

/-! ## Bay slots -/

/-- R123, R125, R126, R127: joining, a station that restarts, and vehicles that come, stand, change and go. -/
def Obligations.StationsJoinAndVehiclesMove : Prop :=
  ∀ (s : State) (b : Bay), s.holds b →
    let settings := s.settingsOf b
    let joining : List BusCommand :=
      [.limits settings.flow settings.allowance settings.slowdown, .lamp .off .off false]
    ((s.settingsOf b).enabled = true → (s.slot b).link = .offline →
      ∃ t, exec (.hello b) s = .next t
        ∧ t.slot b = { s.slot b with link := .up, state := .vacant, go := .off, call := .off }
        ∧ ((∀ w ∈ s.waitingOf b, w.command = .joinCall) → t.toStation b = s.sendingTo b ++ joining)
        ∧ t.bayFlag b .stationChanged = true ∧ s.keepsOtherBays b t
        ∧ s.keepsAllBut [.slots, .bus, .gantryFlags, .bayFlags, .attn] t)
    ∧ ((s.settingsOf b).enabled = true → (s.slot b).link = .up → (s.slot b).state ≠ .offline →
      ∃ t, exec (.hello b) s = .next t
        ∧ t.slot b =
            { link := .up, state := .vacant, present := none, card := none, clamp := (s.slot b).clamp,
              probe := (s.slot b).probe, go := .off, call := .off, lockReported := .unknown, lockDesired := .disengaged,
              lastRefusal := none }
        ∧ (t.permitSlot b).permit = none
        ∧ (∀ x, (s.slot b).present = some x → x.known = true →
            t.tanker? x.tag = (s.tanker? x.tag).map (fun u => { u with bay := none }) ∧ s.keepsOtherTankers x.tag t)
        ∧ t.engine.queue = s.engine.queue.filter (fun e => e.bay != b)
        ∧ t.toStation b = joining ∧ t.bayFlag b .stationChanged = true ∧ s.keepsOtherBays b t
        ∧ t.clock = s.clock ∧ t.drivers = s.drivers ∧ t.store = s.store ∧ t.refCounts = s.refCounts)
    ∧ ((s.settingsOf b).enabled = false →
        exec (.hello b) s = .next (s.withBus { s.bus with grant := none }).pick)
    ∧ (∀ tag, tag ≤ 16777215 → (s.slot b).link = .up → (s.slot b).state = .vacant →
        (∀ u, s.tanker? tag = some u → (u.bay = none ∨ u.bay = some b) →
          ∃ t, exec (.vehiclePresent b tag) s = .next t ∧ (t.slot b).state = .occupied
            ∧ (t.slot b).present = some { tag := tag, known := true } ∧ (t.slot b).card = (s.slot b).card
            ∧ t.tanker? tag = some { u with bay := some b } ∧ s.keepsOtherTankers tag t
            ∧ t.bayFlag b .vehicleChanged = true ∧ s.keepsOtherBays b t
            ∧ s.keepsAllBut [.tankers, .slots, .bus, .gantryFlags, .bayFlags, .attn] t)
        ∧ (∀ u a, s.tanker? tag = some u → u.bay = some a → a ≠ b →
          ∃ t, exec (.vehiclePresent b tag) s = .next t ∧ (t.slot b).state = .occupied
            ∧ (t.slot b).present = some { tag := tag, known := false } ∧ t.bayFlag b .vehicleConflict = true
            ∧ t.bayFlag b .vehicleChanged = true ∧ s.keepsOtherBays b t
            ∧ s.keepsAllBut [.slots, .bus, .bayFlags, .attn] t)
        ∧ (s.tanker? tag = none →
          ∃ t, exec (.vehiclePresent b tag) s = .next t ∧ (t.slot b).state = .occupied
            ∧ (t.slot b).present = some { tag := tag, known := false }
            ∧ (t.slot b).lastRefusal = some { compartment := 0, reason := .unknownUnit } ∧ (t.slot b).call = .flash
            ∧ t.bayFlag b .refused = true ∧ t.bayFlag b .vehicleChanged = true ∧ s.keepsOtherBays b t
            ∧ s.keepsAllBut [.slots, .bus, .gantryFlags, .bayFlags, .attn] t))
    ∧ (∀ tag, tag ≤ 16777215 → (s.slot b).link = .up → ((s.slot b).state = .occupied ∨ (s.slot b).state = .loading) →
        ((s.slot b).present = some { tag := tag, known := true } →
          exec (.vehiclePresent b tag) s = .next (s.withBus { s.bus with grant := none }).pick)
        ∧ ((s.slot b).present = some { tag := tag, known := false } → (s.slot b).state = .occupied →
          ∃ t, exec (.vehiclePresent b tag) s = .next t ∧ s.LookedUp b tag t ∧ (t.slot b).card = (s.slot b).card
            ∧ s.keepsOtherTankers tag t ∧ s.keepsOtherBays b t
            ∧ s.keepsAllBut [.tankers, .slots, .bus, .gantryFlags, .bayFlags, .attn] t)
        ∧ (∀ x, (s.slot b).present = some x → x.tag ≠ tag →
          ∃ t, exec (.vehiclePresent b tag) s = .next t ∧ s.LookedUp b tag t ∧ (t.slot b).card = none
            ∧ (t.permitSlot b).permit = none
            ∧ t.tanker? x.tag = (if x.known = true then (s.tanker? x.tag).map (fun u => { u with bay := none })
                else s.tanker? x.tag)
            ∧ (∀ k : Nat, k ≠ tag → k ≠ x.tag → t.tanker? k = s.tanker? k) ∧ s.keepsOtherBays b t
            ∧ t.clock = s.clock ∧ t.drivers = s.drivers ∧ t.store = s.store ∧ t.refCounts = s.refCounts
            ∧ t.engine = s.engine))
    ∧ ((s.slot b).link = .up → (s.slot b).state = .occupied → (s.permitSlot b).permit = none →
        ∃ t, exec (.vehicleAbsent b) s = .next t ∧ (t.slot b).state = .vacant ∧ (t.slot b).present = none
          ∧ (t.slot b).card = none ∧ (t.slot b).lockDesired = .disengaged ∧ t.bayFlag b .vehicleChanged = true
          ∧ (∀ x, (s.slot b).present = some x → x.known = true →
              t.tanker? x.tag = (s.tanker? x.tag).map (fun u => { u with bay := none }) ∧ s.keepsOtherTankers x.tag t)
          ∧ s.keepsOtherBays b t ∧ s.keepsAllBut [.tankers, .slots, .bus, .gantryFlags, .bayFlags, .attn] t)

/-- R41, R128, R129: cards, drains and calls from a joined station. -/
def Obligations.CardsDrainsAndCalls : Prop :=
  ∀ (s : State) (b : Bay), s.hears b →
    (∀ k d, k ≤ 4294967295 → s.driver? k = some d → d.state ≠ .dispatched →
      ∃ t, exec (.card b k) s = .next t ∧ (t.slot b).card = some k ∧ (t.slot b).present = (s.slot b).present
        ∧ (t.slot b).state = (s.slot b).state ∧ s.keepsOtherBays b t
        ∧ s.keepsAllBut [.slots, .bus, .gantryFlags, .attn] t)
    ∧ (∀ k, k ≤ 4294967295 → (∀ d, s.driver? k = some d → d.state = .dispatched) →
      ∃ t, exec (.card b k) s = .next t ∧ (t.slot b).card = none
        ∧ (t.slot b).lastRefusal = some { compartment := 0, reason := .unknownCard } ∧ (t.slot b).call = .flash
        ∧ t.bayFlag b .refused = true ∧ s.keepsOtherBays b t
        ∧ s.keepsAllBut [.slots, .bus, .gantryFlags, .bayFlags, .attn] t)
    ∧ (∀ c x u k, c ≤ 8 → (s.slot b).present = some x → x.known = true → s.tankerAt? b = some u →
        u.compartment? c = some k →
        (u.state ≠ .released → s.loadedOn u.number c = false →
          exec (.drain b c) s = .next ((s.withBus { s.bus with grant := none }).setDrained u.number c true).pick)
        ∧ ((u.state = .released ∨ s.loadedOn u.number c = true) →
          exec (.drain b c) s = .next (s.withBus { s.bus with grant := none }).pick))
    ∧ exec (.call b) s = .next ((s.withBus { s.bus with grant := none }).raiseBay b .call).pick

/-- R124, R133, R137, R148, R158: the CALL lamp, a bay reset with the JOIN_CALL it queues into the emptied queue, and the loss
of a station. -/
def Obligations.BaysAreLitResetAndLost : Prop :=
  ∀ (s : State) (b : Bay),
    (∀ v lamp, s.port.executing = false → callOf? v = some lamp → (s.slot b).state ≠ .offline →
      ((s.waitingOf b).length < 4 ∨ s.lampWaits b = true →
        ∃ t, exec (.bayLamp b.num v) s = .next t ∧ t.slot b = { s.slot b with call := lamp } ∧ s.keepsOtherBays b t
          ∧ s.keepsAllBut [.slots, .bus, .port] t
          ∧ t.lastResponse? = some { code := 0x61, result := .ok, payload := [] })
      ∧ (4 ≤ (s.waitingOf b).length → s.lampWaits b = false →
          exec (.bayLamp b.num v) s = .next ((s.raiseGantry .queueFull).taken 0x61 .full [])))
    ∧ (∀ i, (i = .bayReset b.num ∧ s.port.executing = false ∧ (s.settingsOf b).enabled = true)
          ∨ (i = .stationLost b ∧ (s.bus.outstanding.look b).isSome = true) →
        (s.slot b).state ≠ .offline →
        ∃ t, exec i s = .next t
          ∧ t.slot b =
              { link := .offline, state := .offline, present := none, card := none, clamp := (s.slot b).clamp,
                probe := (s.slot b).probe, go := .unknown, call := .unknown, lockReported := .unknown,
                lockDesired := .disengaged, lastRefusal := none }
          ∧ (t.permitSlot b).permit = none
          ∧ (∀ x, (s.slot b).present = some x → x.known = true →
              t.tanker? x.tag = (s.tanker? x.tag).map (fun u => { u with bay := none }) ∧ s.keepsOtherTankers x.tag t)
          ∧ t.engine.queue = s.engine.queue.filter (fun e => e.bay != b)
          ∧ (∀ e, s.engine.evaluation = some e → e.bay = b → t.engine.evaluation = some { e with dropped := true })
          ∧ t.bus.urgent.look b = false ∧ t.bus.routine.look b = false ∧ t.bus.served.look b = false
          ∧ t.bus.numbers.look b = 0 ∧ t.bus.outstanding.look b = none
          ∧ t.toStation b = (if i = .bayReset b.num then [.joinCall] else [])
          ∧ t.bayFlag b .stationChanged = true ∧ s.keepsOtherBays b t
          ∧ t.clock = s.clock ∧ t.drivers = s.drivers ∧ t.store = s.store ∧ t.refCounts = s.refCounts)
    ∧ (s.port.executing = false → (s.settingsOf b).enabled = true → (s.slot b).state = .offline →
        ∃ t, exec (.bayReset b.num) s = .next t ∧ t.slot b = s.slot b ∧ t.toStation b = [.joinCall]
          ∧ t.bus.urgent.look b = false ∧ t.bus.routine.look b = false ∧ t.bus.served.look b = false
          ∧ t.bus.numbers.look b = 0 ∧ t.bus.outstanding.look b = none
          ∧ t.bayFlag b .stationChanged = true ∧ s.keepsOtherBays b t
          ∧ s.keepsAllBut [.bus, .bayFlags, .attn, .port] t)

/-! ## The gantry bus -/

/-- R150, R151: a pick on a free bus takes the first that applies: an URGENT grant to the pending bay of lowest rank, then
the oldest command whose bay has nothing outstanding, then, with no evaluation in flight, a ROUTINE grant in turn. -/
def Obligations.PickTakesTheFirstThatApplies : Prop :=
  ∀ s : State, s.busFree = true →
    let first (among : Bay → Prop) (b : Bay) : Prop := among b ∧ ∀ a, among a → a ≠ b →
      (s.settingsOf b).rank < (s.settingsOf a).rank ∨ ((s.settingsOf b).rank = (s.settingsOf a).rank ∧ b.num < a.num)
    let quiet : Prop := ∀ b : Bay, s.bus.urgent.look b = false
    let granted (b : Bay) (cls : RequestClass) (t : State) : Prop :=
      t.bus.grant = some { bay := b, cls := cls, phase := .granted, timer := 20 }
    s.keepsAllBut [.bus] s.pick
    ∧ ((∃ b : Bay, s.bus.urgent.look b = true) →
        ∃ b, first (fun a => s.bus.urgent.look a = true) b ∧ granted b .urgent s.pick
          ∧ s.pick.bus.served = s.bus.served ∧ s.pick.bus.outbound = s.bus.outbound)
    ∧ (∀ before w after, quiet → s.bus.outbound = before ++ w :: after →
        (∀ x ∈ before, (s.bus.outstanding.look x.bay).isSome = true) → s.bus.outstanding.look w.bay = none →
        s.pick.bus.outbound = before ++ after
          ∧ s.pick.bus.transmission = some
              { bay := w.bay, command := w.command,
                number := if w.command = .joinCall then none else some (s.bus.numbers.look w.bay), forgotten := false }
          ∧ s.pick.bus.numbers.look w.bay =
              (if w.command = .joinCall then s.bus.numbers.look w.bay else (s.bus.numbers.look w.bay + 1) % 256))
    ∧ (quiet → (∀ x ∈ s.bus.outbound, (s.bus.outstanding.look x.bay).isSome = true) →
        (s.engine.evaluation.isSome = true → s.pick = s)
        ∧ (s.engine.evaluation = none → (∃ b : Bay, s.bus.routine.look b = true) →
            ∃ b, granted b .routine s.pick ∧ s.pick.bus.served.look b = true
              ∧ ((∃ a : Bay, s.bus.routine.look a = true ∧ s.bus.served.look a = false) →
                  first (fun a => s.bus.routine.look a = true ∧ s.bus.served.look a = false) b
                    ∧ ∀ a, a ≠ b → s.pick.bus.served.look a = s.bus.served.look a)
              ∧ ((∀ a : Bay, s.bus.routine.look a = true → s.bus.served.look a = true) →
                  first (fun a => s.bus.routine.look a = true) b
                    ∧ ∀ a, a ≠ b → s.pick.bus.served.look a = false)))

/-- R134, R149, R152, R153, R156, R157: requests, takes, expiries that end the grant or the hold and free the bus, the end of
a transmission, and acknowledgements, each with the pick that follows it (assumption 18). -/
def Obligations.BusEventsMoveTheBus : Prop :=
  ∀ s : State,
    let dropped (g : Grant) : Bus := { s.bus with
      urgent := if g.cls = .urgent then s.bus.urgent.put g.bay false else s.bus.urgent
      routine := if g.cls = .routine then s.bus.routine.put g.bay false else s.bus.routine }
    (∀ b : Bay, (s.settingsOf b).enabled = true →
      exec (.requestRaised b .urgent) s = .next (s.withBus { s.bus with urgent := s.bus.urgent.put b true }).pick
      ∧ exec (.requestRaised b .routine) s = .next (s.withBus { s.bus with routine := s.bus.routine.put b true }).pick)
    ∧ (∀ (b : Bay) cls, (s.settingsOf b).enabled = false → exec (.requestRaised b cls) s = .next s)
    ∧ (∀ g, s.bus.grant = some g → g.phase = .granted →
        exec (.take g.bay) s = .next (s.withBus { dropped g with grant := some { g with phase := .held, timer := 20 } })
        ∧ (∀ b, b ≠ g.bay → exec (.take b) s = .next s)
        ∧ exec .grantExpiry s = .next ((s.withBus { dropped g with grant := none }).raiseGantry .grantExpired).pick)
    ∧ (∀ g, s.bus.grant = some g → g.phase = .held →
        exec .holdExpiry s = .next ((s.withBus { s.bus with grant := none }).raiseGantry .grantExpired).pick
        ∧ exec .messageDiscarded s = .next (s.withBus { s.bus with grant := none }).pick)
    ∧ (∀ x n, s.bus.transmission = some x → x.forgotten = false → x.number = some n →
        exec .transmissionEnd s = .next (s.withBus { s.bus with
          transmission := none
          outstanding := s.bus.outstanding.put x.bay (some { command := x.command, number := n, timer := 500 }) }).pick)
    ∧ (∀ x, s.bus.transmission = some x → (x.forgotten = true ∨ x.number = none) →
        exec .transmissionEnd s = .next (s.withBus { s.bus with transmission := none }).pick)
    ∧ (∀ (b : Bay) n lock, s.hears b → n ≤ 255 →
        let wrong : Prop := ((s.slot b).lockDesired = .engaged ∧ lock ≠ .engaged)
          ∨ ((s.slot b).lockDesired = .disengaged ∧ lock = .engaged)
        let toggle : Waiting := { bay := b, command := .armToggle }
        let inHand : Prop := toggle ∈ s.bus.outbound
          ∨ ∃ x, s.bus.transmission = some x ∧ x.bay = b ∧ x.command = .armToggle
        (∀ o, s.bus.outstanding.look b = some o → o.number = n →
          ∃ u, exec (.ack b n lock) s = .next u.pick ∧ u.slot b = { s.slot b with lockReported := lock }
            ∧ u.bus = { s.bus with grant := none, outstanding := s.bus.outstanding.put b none, outbound := u.bus.outbound }
            ∧ (wrong → ¬ inHand → (s.waitingOf b).length < 4 → u.bus.outbound = s.bus.outbound ++ [toggle])
            ∧ (¬ wrong ∨ inHand ∨ 4 ≤ (s.waitingOf b).length → u.bus.outbound = s.bus.outbound)
            ∧ (∀ go call, o.command = .lamp go call true → u.bayFlag b .commandDone = true)
            ∧ ((∀ go call, o.command ≠ .lamp go call true) → u.attention.bays = s.attention.bays)
            ∧ s.keepsOtherBays b u ∧ s.keepsAllBut [.slots, .bus, .gantryFlags, .bayFlags, .attn] u)
        ∧ ((∀ o, s.bus.outstanding.look b = some o → o.number ≠ n) →
          exec (.ack b n lock) s = .next (s.withBus { s.bus with grant := none }).pick))

/-! ## Office port and attention -/

/-- R163 to R167: marks, lengths, whole frames that fail a check, abandoned frames, RESET, which arranges a reset, and the end
of a response, at which that reset takes effect. The rows' readings are the model's choice: a whole frame and its parts
(assumptions 5 and 6), the list of responses being sent (assumption 7), and the record of the arranged reset with the row that
says its end (assumption 8). -/
def Obligations.PortReceivesChecksAndAnswers : Prop :=
  ∀ s : State,
    (s.port.executing = false →
      (s.port.rx = .hunting → exec .frameMark s = .next (s.withPort { s.port with
        rx := .receiving, buffer := [], frameTimer := some 50 }))
      ∧ (∀ code len : Byte, 240 < len.toNat → ∃ t, exec (.length code len) s = .next t ∧ s.keepsAllBut [.port] t
          ∧ t.port.rx = .hunting ∧ t.lastResponse? = some { code := code, result := .length, payload := [] }
          ∧ t.port.executing = false)
      ∧ (∀ code len : Byte, len.toNat ≤ 240 → ∃ t, exec (.length code len) s = .next t ∧ s.keepsAllBut [.port] t
          ∧ t.port.rx = .receiving ∧ t.port.buffer = [code, len] ∧ t.port.sending = s.port.sending)
      ∧ (∀ code p sum, sum ≠ frameSum code p → ∃ t, exec (.unknownCommand code p sum) s = .next t
          ∧ s.keepsAllBut [.port] t ∧ t.port.rx = .hunting ∧ t.port.executing = false
          ∧ t.lastResponse? = some { code := code, result := .checksum, payload := [] })
      ∧ (∀ code p, (∀ i : Instr, i.hostCode ≠ some code) → ∃ t, exec (.unknownCommand code p (frameSum code p)) s = .next t
          ∧ s.keepsAllBut [.port] t ∧ t.port.rx = .hunting ∧ t.port.executing = false
          ∧ t.lastResponse? = some { code := code, result := .unknownCommand, payload := [] })
      ∧ (∀ code p, (∃ i : Instr, i.hostCode = some code) → requiredLength code p ≠ some p.length →
          ∃ t, exec (.unknownCommand code p (frameSum code p)) s = .next t ∧ s.keepsAllBut [.port] t
            ∧ t.port.rx = .hunting ∧ t.port.executing = false
            ∧ t.lastResponse? = some { code := code, result := .length, payload := [] })
      ∧ (∀ kind : Byte, 2 ≤ kind.toNat →
          exec (.unknownCommand 0x02 [kind] (frameSum 0x02 [kind])) s = .next (s.taken 0x02 .badValue []))
      ∧ exec .resetSoft s = .next ((s.withPort { s.port with resetArranged := some .soft }).taken 0x02 .ok [])
      ∧ exec .resetHard s = .next ((s.withPort { s.port with resetArranged := some .hard }).taken 0x02 .ok []))
    ∧ (s.port.rx = .receiving →
        exec .frameTimeout s = .next (s.withPort { s.port with rx := .hunting, buffer := [], frameTimer := none })
        ∧ exec .framingError s = .next (s.withPort { s.port with rx := .hunting, buffer := [], frameTimer := none }))
    ∧ (∀ r, s.port.sending = [r] → s.port.executing = true →
        (s.port.resetArranged = none →
          exec .responseSent s = .next (s.withPort { s.port with
            rx := .hunting, buffer := [], frameTimer := none, executing := false, overrun := false
            sending := if s.port.overrun = true then [{ code := 0x00, result := .overrun, payload := [] }] else [] }))
        ∧ (s.port.resetArranged = some .soft → exec .responseSent s = exec .softReset s)
        ∧ (s.port.resetArranged = some .hard → exec .responseSent s = exec .hardReset s))
    ∧ (∀ r x rest, s.port.sending = r :: x :: rest →
        exec .responseSent s = .next (s.withPort { s.port with sending := x :: rest }))

/-- R171, R174, R175: an acknowledge clears the flags its mask names in one entry, and the enable masks drop the bits that
stand for no kind. -/
def Obligations.AcknowledgesClearAndMasksEnable : Prop :=
  ∀ (s : State) (mask other : Mask), s.port.executing = false →
    (∃ t, exec (.ackAttention 0 mask) s = .next t ∧ t.attention.gantry = s.attention.gantry &&& ~~~mask
      ∧ s.keepsAllBut [.gantryFlags, .attn, .port] t
      ∧ t.lastResponse? = some { code := 0x71, result := .ok, payload := maskBytes (s.attention.gantry &&& ~~~mask) })
    ∧ (∀ b : Bay, ∃ t, exec (.ackAttention b.num mask) s = .next t
      ∧ t.attention.bays.look b = s.attention.bays.look b &&& ~~~mask ∧ s.keepsOtherBays b t
      ∧ s.keepsAllBut [.bayFlags, .attn, .port] t
      ∧ t.lastResponse? = some
          { code := 0x71, result := .ok,
            payload := maskBytes (s.attention.bays.look b &&& ~~~mask) })
    ∧ (∀ n, 12 < n → exec (.ackAttention n mask) s = .next (s.taken 0x71 .badValue []))
    ∧ (s.store.save = .idle → ∃ t, exec (.setAttentionEnable mask other) s = .next t
      ∧ t.store = { s.store with settings := { s.store.settings with
          bayKinds := mask &&& 0x0FFF, gantryKinds := other &&& 0x01FF } }
      ∧ s.keepsAllBut [.store, .attn, .port] t
      ∧ t.lastResponse? = some
          { code := 0x72, result := if mask &&& 0x0FFF = mask ∧ other &&& 0x01FF = other then .ok else .clamped,
            payload := maskBytes (mask &&& 0x0FFF) ++ maskBytes (other &&& 0x01FF) })
    ∧ (∀ (k : GantryKind) (b : Bay) (j : BayKind), (s.raiseGantry k).gantryFlag k = true ∧ (s.raiseBay b j).bayFlag b j = true
      ∧ (s.gantryFlag k = true → (s.raiseGantry k).attention.gantry = s.attention.gantry)
      ∧ (s.bayFlag b j = true → (s.raiseBay b j).attention.bays = s.attention.bays))

end
end

