-- ==== Sys2Proof/Laws/State.lean ====
section
/-! SUPPORT. One lemma for each field under each block update of State, and the two lemmas of a table of twelve. -/

namespace Sys2Proof.Machine

@[simp] theorem State.withClock_clock (s : State) (x : Clock) : (s.withClock x).clock = x := rfl
@[simp] theorem State.withClock_drivers (s : State) (x : Clock) : (s.withClock x).drivers = s.drivers := rfl
@[simp] theorem State.withClock_tankers (s : State) (x : Clock) : (s.withClock x).tankers = s.tankers := rfl
@[simp] theorem State.withClock_consignments (s : State) (x : Clock) : (s.withClock x).consignments = s.consignments := rfl
@[simp] theorem State.withClock_refCounts (s : State) (x : Clock) : (s.withClock x).refCounts = s.refCounts := rfl
@[simp] theorem State.withClock_store (s : State) (x : Clock) : (s.withClock x).store = s.store := rfl
@[simp] theorem State.withClock_engine (s : State) (x : Clock) : (s.withClock x).engine = s.engine := rfl
@[simp] theorem State.withClock_filling (s : State) (x : Clock) : (s.withClock x).filling = s.filling := rfl
@[simp] theorem State.withClock_slots (s : State) (x : Clock) : (s.withClock x).slots = s.slots := rfl
@[simp] theorem State.withClock_bus (s : State) (x : Clock) : (s.withClock x).bus = s.bus := rfl
@[simp] theorem State.withClock_port (s : State) (x : Clock) : (s.withClock x).port = s.port := rfl
@[simp] theorem State.withClock_attention (s : State) (x : Clock) : (s.withClock x).attention = s.attention := rfl
@[simp] theorem State.withClock_startKind (s : State) (x : Clock) : (s.withClock x).startKind = s.startKind := rfl
@[simp] theorem State.withClock_pending (s : State) (x : Clock) : (s.withClock x).pending = s.pending := rfl

@[simp] theorem State.withDrivers_clock (s : State) (x : List Driver) : (s.withDrivers x).clock = s.clock := rfl
@[simp] theorem State.withDrivers_drivers (s : State) (x : List Driver) : (s.withDrivers x).drivers = x := rfl
@[simp] theorem State.withDrivers_tankers (s : State) (x : List Driver) : (s.withDrivers x).tankers = s.tankers := rfl
@[simp] theorem State.withDrivers_consignments (s : State) (x : List Driver) : (s.withDrivers x).consignments = s.consignments := rfl
@[simp] theorem State.withDrivers_refCounts (s : State) (x : List Driver) : (s.withDrivers x).refCounts = s.refCounts := rfl
@[simp] theorem State.withDrivers_store (s : State) (x : List Driver) : (s.withDrivers x).store = s.store := rfl
@[simp] theorem State.withDrivers_engine (s : State) (x : List Driver) : (s.withDrivers x).engine = s.engine := rfl
@[simp] theorem State.withDrivers_filling (s : State) (x : List Driver) : (s.withDrivers x).filling = s.filling := rfl
@[simp] theorem State.withDrivers_slots (s : State) (x : List Driver) : (s.withDrivers x).slots = s.slots := rfl
@[simp] theorem State.withDrivers_bus (s : State) (x : List Driver) : (s.withDrivers x).bus = s.bus := rfl
@[simp] theorem State.withDrivers_port (s : State) (x : List Driver) : (s.withDrivers x).port = s.port := rfl
@[simp] theorem State.withDrivers_attention (s : State) (x : List Driver) : (s.withDrivers x).attention = s.attention := rfl
@[simp] theorem State.withDrivers_startKind (s : State) (x : List Driver) : (s.withDrivers x).startKind = s.startKind := rfl
@[simp] theorem State.withDrivers_pending (s : State) (x : List Driver) : (s.withDrivers x).pending = s.pending := rfl

@[simp] theorem State.withTankers_clock (s : State) (x : List Tanker) : (s.withTankers x).clock = s.clock := rfl
@[simp] theorem State.withTankers_drivers (s : State) (x : List Tanker) : (s.withTankers x).drivers = s.drivers := rfl
@[simp] theorem State.withTankers_tankers (s : State) (x : List Tanker) : (s.withTankers x).tankers = x := rfl
@[simp] theorem State.withTankers_consignments (s : State) (x : List Tanker) : (s.withTankers x).consignments = s.consignments := rfl
@[simp] theorem State.withTankers_refCounts (s : State) (x : List Tanker) : (s.withTankers x).refCounts = s.refCounts := rfl
@[simp] theorem State.withTankers_store (s : State) (x : List Tanker) : (s.withTankers x).store = s.store := rfl
@[simp] theorem State.withTankers_engine (s : State) (x : List Tanker) : (s.withTankers x).engine = s.engine := rfl
@[simp] theorem State.withTankers_filling (s : State) (x : List Tanker) : (s.withTankers x).filling = s.filling := rfl
@[simp] theorem State.withTankers_slots (s : State) (x : List Tanker) : (s.withTankers x).slots = s.slots := rfl
@[simp] theorem State.withTankers_bus (s : State) (x : List Tanker) : (s.withTankers x).bus = s.bus := rfl
@[simp] theorem State.withTankers_port (s : State) (x : List Tanker) : (s.withTankers x).port = s.port := rfl
@[simp] theorem State.withTankers_attention (s : State) (x : List Tanker) : (s.withTankers x).attention = s.attention := rfl
@[simp] theorem State.withTankers_startKind (s : State) (x : List Tanker) : (s.withTankers x).startKind = s.startKind := rfl
@[simp] theorem State.withTankers_pending (s : State) (x : List Tanker) : (s.withTankers x).pending = s.pending := rfl

@[simp] theorem State.withConsignments_clock (s : State) (x : List Consignment) : (s.withConsignments x).clock = s.clock := rfl
@[simp] theorem State.withConsignments_drivers (s : State) (x : List Consignment) : (s.withConsignments x).drivers = s.drivers := rfl
@[simp] theorem State.withConsignments_tankers (s : State) (x : List Consignment) : (s.withConsignments x).tankers = s.tankers := rfl
@[simp] theorem State.withConsignments_consignments (s : State) (x : List Consignment) : (s.withConsignments x).consignments = x := rfl
@[simp] theorem State.withConsignments_refCounts (s : State) (x : List Consignment) : (s.withConsignments x).refCounts = s.refCounts := rfl
@[simp] theorem State.withConsignments_store (s : State) (x : List Consignment) : (s.withConsignments x).store = s.store := rfl
@[simp] theorem State.withConsignments_engine (s : State) (x : List Consignment) : (s.withConsignments x).engine = s.engine := rfl
@[simp] theorem State.withConsignments_filling (s : State) (x : List Consignment) : (s.withConsignments x).filling = s.filling := rfl
@[simp] theorem State.withConsignments_slots (s : State) (x : List Consignment) : (s.withConsignments x).slots = s.slots := rfl
@[simp] theorem State.withConsignments_bus (s : State) (x : List Consignment) : (s.withConsignments x).bus = s.bus := rfl
@[simp] theorem State.withConsignments_port (s : State) (x : List Consignment) : (s.withConsignments x).port = s.port := rfl
@[simp] theorem State.withConsignments_attention (s : State) (x : List Consignment) : (s.withConsignments x).attention = s.attention := rfl
@[simp] theorem State.withConsignments_startKind (s : State) (x : List Consignment) : (s.withConsignments x).startKind = s.startKind := rfl
@[simp] theorem State.withConsignments_pending (s : State) (x : List Consignment) : (s.withConsignments x).pending = s.pending := rfl

@[simp] theorem State.withRefCounts_clock (s : State) (x : Vector Nat 64) : (s.withRefCounts x).clock = s.clock := rfl
@[simp] theorem State.withRefCounts_drivers (s : State) (x : Vector Nat 64) : (s.withRefCounts x).drivers = s.drivers := rfl
@[simp] theorem State.withRefCounts_tankers (s : State) (x : Vector Nat 64) : (s.withRefCounts x).tankers = s.tankers := rfl
@[simp] theorem State.withRefCounts_consignments (s : State) (x : Vector Nat 64) : (s.withRefCounts x).consignments = s.consignments := rfl
@[simp] theorem State.withRefCounts_refCounts (s : State) (x : Vector Nat 64) : (s.withRefCounts x).refCounts = x := rfl
@[simp] theorem State.withRefCounts_store (s : State) (x : Vector Nat 64) : (s.withRefCounts x).store = s.store := rfl
@[simp] theorem State.withRefCounts_engine (s : State) (x : Vector Nat 64) : (s.withRefCounts x).engine = s.engine := rfl
@[simp] theorem State.withRefCounts_filling (s : State) (x : Vector Nat 64) : (s.withRefCounts x).filling = s.filling := rfl
@[simp] theorem State.withRefCounts_slots (s : State) (x : Vector Nat 64) : (s.withRefCounts x).slots = s.slots := rfl
@[simp] theorem State.withRefCounts_bus (s : State) (x : Vector Nat 64) : (s.withRefCounts x).bus = s.bus := rfl
@[simp] theorem State.withRefCounts_port (s : State) (x : Vector Nat 64) : (s.withRefCounts x).port = s.port := rfl
@[simp] theorem State.withRefCounts_attention (s : State) (x : Vector Nat 64) : (s.withRefCounts x).attention = s.attention := rfl
@[simp] theorem State.withRefCounts_startKind (s : State) (x : Vector Nat 64) : (s.withRefCounts x).startKind = s.startKind := rfl
@[simp] theorem State.withRefCounts_pending (s : State) (x : Vector Nat 64) : (s.withRefCounts x).pending = s.pending := rfl

@[simp] theorem State.withStore_clock (s : State) (x : Store) : (s.withStore x).clock = s.clock := rfl
@[simp] theorem State.withStore_drivers (s : State) (x : Store) : (s.withStore x).drivers = s.drivers := rfl
@[simp] theorem State.withStore_tankers (s : State) (x : Store) : (s.withStore x).tankers = s.tankers := rfl
@[simp] theorem State.withStore_consignments (s : State) (x : Store) : (s.withStore x).consignments = s.consignments := rfl
@[simp] theorem State.withStore_refCounts (s : State) (x : Store) : (s.withStore x).refCounts = s.refCounts := rfl
@[simp] theorem State.withStore_store (s : State) (x : Store) : (s.withStore x).store = x := rfl
@[simp] theorem State.withStore_engine (s : State) (x : Store) : (s.withStore x).engine = s.engine := rfl
@[simp] theorem State.withStore_filling (s : State) (x : Store) : (s.withStore x).filling = s.filling := rfl
@[simp] theorem State.withStore_slots (s : State) (x : Store) : (s.withStore x).slots = s.slots := rfl
@[simp] theorem State.withStore_bus (s : State) (x : Store) : (s.withStore x).bus = s.bus := rfl
@[simp] theorem State.withStore_port (s : State) (x : Store) : (s.withStore x).port = s.port := rfl
@[simp] theorem State.withStore_attention (s : State) (x : Store) : (s.withStore x).attention = s.attention := rfl
@[simp] theorem State.withStore_startKind (s : State) (x : Store) : (s.withStore x).startKind = s.startKind := rfl
@[simp] theorem State.withStore_pending (s : State) (x : Store) : (s.withStore x).pending = s.pending := rfl

@[simp] theorem State.withEngine_clock (s : State) (x : Engine) : (s.withEngine x).clock = s.clock := rfl
@[simp] theorem State.withEngine_drivers (s : State) (x : Engine) : (s.withEngine x).drivers = s.drivers := rfl
@[simp] theorem State.withEngine_tankers (s : State) (x : Engine) : (s.withEngine x).tankers = s.tankers := rfl
@[simp] theorem State.withEngine_consignments (s : State) (x : Engine) : (s.withEngine x).consignments = s.consignments := rfl
@[simp] theorem State.withEngine_refCounts (s : State) (x : Engine) : (s.withEngine x).refCounts = s.refCounts := rfl
@[simp] theorem State.withEngine_store (s : State) (x : Engine) : (s.withEngine x).store = s.store := rfl
@[simp] theorem State.withEngine_engine (s : State) (x : Engine) : (s.withEngine x).engine = x := rfl
@[simp] theorem State.withEngine_filling (s : State) (x : Engine) : (s.withEngine x).filling = s.filling := rfl
@[simp] theorem State.withEngine_slots (s : State) (x : Engine) : (s.withEngine x).slots = s.slots := rfl
@[simp] theorem State.withEngine_bus (s : State) (x : Engine) : (s.withEngine x).bus = s.bus := rfl
@[simp] theorem State.withEngine_port (s : State) (x : Engine) : (s.withEngine x).port = s.port := rfl
@[simp] theorem State.withEngine_attention (s : State) (x : Engine) : (s.withEngine x).attention = s.attention := rfl
@[simp] theorem State.withEngine_startKind (s : State) (x : Engine) : (s.withEngine x).startKind = s.startKind := rfl
@[simp] theorem State.withEngine_pending (s : State) (x : Engine) : (s.withEngine x).pending = s.pending := rfl

@[simp] theorem State.withFilling_clock (s : State) (x : Filling) : (s.withFilling x).clock = s.clock := rfl
@[simp] theorem State.withFilling_drivers (s : State) (x : Filling) : (s.withFilling x).drivers = s.drivers := rfl
@[simp] theorem State.withFilling_tankers (s : State) (x : Filling) : (s.withFilling x).tankers = s.tankers := rfl
@[simp] theorem State.withFilling_consignments (s : State) (x : Filling) : (s.withFilling x).consignments = s.consignments := rfl
@[simp] theorem State.withFilling_refCounts (s : State) (x : Filling) : (s.withFilling x).refCounts = s.refCounts := rfl
@[simp] theorem State.withFilling_store (s : State) (x : Filling) : (s.withFilling x).store = s.store := rfl
@[simp] theorem State.withFilling_engine (s : State) (x : Filling) : (s.withFilling x).engine = s.engine := rfl
@[simp] theorem State.withFilling_filling (s : State) (x : Filling) : (s.withFilling x).filling = x := rfl
@[simp] theorem State.withFilling_slots (s : State) (x : Filling) : (s.withFilling x).slots = s.slots := rfl
@[simp] theorem State.withFilling_bus (s : State) (x : Filling) : (s.withFilling x).bus = s.bus := rfl
@[simp] theorem State.withFilling_port (s : State) (x : Filling) : (s.withFilling x).port = s.port := rfl
@[simp] theorem State.withFilling_attention (s : State) (x : Filling) : (s.withFilling x).attention = s.attention := rfl
@[simp] theorem State.withFilling_startKind (s : State) (x : Filling) : (s.withFilling x).startKind = s.startKind := rfl
@[simp] theorem State.withFilling_pending (s : State) (x : Filling) : (s.withFilling x).pending = s.pending := rfl

@[simp] theorem State.withSlots_clock (s : State) (x : PerBay Slot) : (s.withSlots x).clock = s.clock := rfl
@[simp] theorem State.withSlots_drivers (s : State) (x : PerBay Slot) : (s.withSlots x).drivers = s.drivers := rfl
@[simp] theorem State.withSlots_tankers (s : State) (x : PerBay Slot) : (s.withSlots x).tankers = s.tankers := rfl
@[simp] theorem State.withSlots_consignments (s : State) (x : PerBay Slot) : (s.withSlots x).consignments = s.consignments := rfl
@[simp] theorem State.withSlots_refCounts (s : State) (x : PerBay Slot) : (s.withSlots x).refCounts = s.refCounts := rfl
@[simp] theorem State.withSlots_store (s : State) (x : PerBay Slot) : (s.withSlots x).store = s.store := rfl
@[simp] theorem State.withSlots_engine (s : State) (x : PerBay Slot) : (s.withSlots x).engine = s.engine := rfl
@[simp] theorem State.withSlots_filling (s : State) (x : PerBay Slot) : (s.withSlots x).filling = s.filling := rfl
@[simp] theorem State.withSlots_slots (s : State) (x : PerBay Slot) : (s.withSlots x).slots = x := rfl
@[simp] theorem State.withSlots_bus (s : State) (x : PerBay Slot) : (s.withSlots x).bus = s.bus := rfl
@[simp] theorem State.withSlots_port (s : State) (x : PerBay Slot) : (s.withSlots x).port = s.port := rfl
@[simp] theorem State.withSlots_attention (s : State) (x : PerBay Slot) : (s.withSlots x).attention = s.attention := rfl
@[simp] theorem State.withSlots_startKind (s : State) (x : PerBay Slot) : (s.withSlots x).startKind = s.startKind := rfl
@[simp] theorem State.withSlots_pending (s : State) (x : PerBay Slot) : (s.withSlots x).pending = s.pending := rfl

@[simp] theorem State.withBus_clock (s : State) (x : Bus) : (s.withBus x).clock = s.clock := rfl
@[simp] theorem State.withBus_drivers (s : State) (x : Bus) : (s.withBus x).drivers = s.drivers := rfl
@[simp] theorem State.withBus_tankers (s : State) (x : Bus) : (s.withBus x).tankers = s.tankers := rfl
@[simp] theorem State.withBus_consignments (s : State) (x : Bus) : (s.withBus x).consignments = s.consignments := rfl
@[simp] theorem State.withBus_refCounts (s : State) (x : Bus) : (s.withBus x).refCounts = s.refCounts := rfl
@[simp] theorem State.withBus_store (s : State) (x : Bus) : (s.withBus x).store = s.store := rfl
@[simp] theorem State.withBus_engine (s : State) (x : Bus) : (s.withBus x).engine = s.engine := rfl
@[simp] theorem State.withBus_filling (s : State) (x : Bus) : (s.withBus x).filling = s.filling := rfl
@[simp] theorem State.withBus_slots (s : State) (x : Bus) : (s.withBus x).slots = s.slots := rfl
@[simp] theorem State.withBus_bus (s : State) (x : Bus) : (s.withBus x).bus = x := rfl
@[simp] theorem State.withBus_port (s : State) (x : Bus) : (s.withBus x).port = s.port := rfl
@[simp] theorem State.withBus_attention (s : State) (x : Bus) : (s.withBus x).attention = s.attention := rfl
@[simp] theorem State.withBus_startKind (s : State) (x : Bus) : (s.withBus x).startKind = s.startKind := rfl
@[simp] theorem State.withBus_pending (s : State) (x : Bus) : (s.withBus x).pending = s.pending := rfl

@[simp] theorem State.withPort_clock (s : State) (x : Port) : (s.withPort x).clock = s.clock := rfl
@[simp] theorem State.withPort_drivers (s : State) (x : Port) : (s.withPort x).drivers = s.drivers := rfl
@[simp] theorem State.withPort_tankers (s : State) (x : Port) : (s.withPort x).tankers = s.tankers := rfl
@[simp] theorem State.withPort_consignments (s : State) (x : Port) : (s.withPort x).consignments = s.consignments := rfl
@[simp] theorem State.withPort_refCounts (s : State) (x : Port) : (s.withPort x).refCounts = s.refCounts := rfl
@[simp] theorem State.withPort_store (s : State) (x : Port) : (s.withPort x).store = s.store := rfl
@[simp] theorem State.withPort_engine (s : State) (x : Port) : (s.withPort x).engine = s.engine := rfl
@[simp] theorem State.withPort_filling (s : State) (x : Port) : (s.withPort x).filling = s.filling := rfl
@[simp] theorem State.withPort_slots (s : State) (x : Port) : (s.withPort x).slots = s.slots := rfl
@[simp] theorem State.withPort_bus (s : State) (x : Port) : (s.withPort x).bus = s.bus := rfl
@[simp] theorem State.withPort_port (s : State) (x : Port) : (s.withPort x).port = x := rfl
@[simp] theorem State.withPort_attention (s : State) (x : Port) : (s.withPort x).attention = s.attention := rfl
@[simp] theorem State.withPort_startKind (s : State) (x : Port) : (s.withPort x).startKind = s.startKind := rfl
@[simp] theorem State.withPort_pending (s : State) (x : Port) : (s.withPort x).pending = s.pending := rfl

@[simp] theorem State.withAttention_clock (s : State) (x : Attention) : (s.withAttention x).clock = s.clock := rfl
@[simp] theorem State.withAttention_drivers (s : State) (x : Attention) : (s.withAttention x).drivers = s.drivers := rfl
@[simp] theorem State.withAttention_tankers (s : State) (x : Attention) : (s.withAttention x).tankers = s.tankers := rfl
@[simp] theorem State.withAttention_consignments (s : State) (x : Attention) : (s.withAttention x).consignments = s.consignments := rfl
@[simp] theorem State.withAttention_refCounts (s : State) (x : Attention) : (s.withAttention x).refCounts = s.refCounts := rfl
@[simp] theorem State.withAttention_store (s : State) (x : Attention) : (s.withAttention x).store = s.store := rfl
@[simp] theorem State.withAttention_engine (s : State) (x : Attention) : (s.withAttention x).engine = s.engine := rfl
@[simp] theorem State.withAttention_filling (s : State) (x : Attention) : (s.withAttention x).filling = s.filling := rfl
@[simp] theorem State.withAttention_slots (s : State) (x : Attention) : (s.withAttention x).slots = s.slots := rfl
@[simp] theorem State.withAttention_bus (s : State) (x : Attention) : (s.withAttention x).bus = s.bus := rfl
@[simp] theorem State.withAttention_port (s : State) (x : Attention) : (s.withAttention x).port = s.port := rfl
@[simp] theorem State.withAttention_attention (s : State) (x : Attention) : (s.withAttention x).attention = x := rfl
@[simp] theorem State.withAttention_startKind (s : State) (x : Attention) : (s.withAttention x).startKind = s.startKind := rfl
@[simp] theorem State.withAttention_pending (s : State) (x : Attention) : (s.withAttention x).pending = s.pending := rfl

@[simp] theorem State.withStartKind_clock (s : State) (x : StartKind) : (s.withStartKind x).clock = s.clock := rfl
@[simp] theorem State.withStartKind_drivers (s : State) (x : StartKind) : (s.withStartKind x).drivers = s.drivers := rfl
@[simp] theorem State.withStartKind_tankers (s : State) (x : StartKind) : (s.withStartKind x).tankers = s.tankers := rfl
@[simp] theorem State.withStartKind_consignments (s : State) (x : StartKind) : (s.withStartKind x).consignments = s.consignments := rfl
@[simp] theorem State.withStartKind_refCounts (s : State) (x : StartKind) : (s.withStartKind x).refCounts = s.refCounts := rfl
@[simp] theorem State.withStartKind_store (s : State) (x : StartKind) : (s.withStartKind x).store = s.store := rfl
@[simp] theorem State.withStartKind_engine (s : State) (x : StartKind) : (s.withStartKind x).engine = s.engine := rfl
@[simp] theorem State.withStartKind_filling (s : State) (x : StartKind) : (s.withStartKind x).filling = s.filling := rfl
@[simp] theorem State.withStartKind_slots (s : State) (x : StartKind) : (s.withStartKind x).slots = s.slots := rfl
@[simp] theorem State.withStartKind_bus (s : State) (x : StartKind) : (s.withStartKind x).bus = s.bus := rfl
@[simp] theorem State.withStartKind_port (s : State) (x : StartKind) : (s.withStartKind x).port = s.port := rfl
@[simp] theorem State.withStartKind_attention (s : State) (x : StartKind) : (s.withStartKind x).attention = s.attention := rfl
@[simp] theorem State.withStartKind_startKind (s : State) (x : StartKind) : (s.withStartKind x).startKind = x := rfl
@[simp] theorem State.withStartKind_pending (s : State) (x : StartKind) : (s.withStartKind x).pending = s.pending := rfl

@[simp] theorem State.withPending_clock (s : State) (x : List Instr) : (s.withPending x).clock = s.clock := rfl
@[simp] theorem State.withPending_drivers (s : State) (x : List Instr) : (s.withPending x).drivers = s.drivers := rfl
@[simp] theorem State.withPending_tankers (s : State) (x : List Instr) : (s.withPending x).tankers = s.tankers := rfl
@[simp] theorem State.withPending_consignments (s : State) (x : List Instr) : (s.withPending x).consignments = s.consignments := rfl
@[simp] theorem State.withPending_refCounts (s : State) (x : List Instr) : (s.withPending x).refCounts = s.refCounts := rfl
@[simp] theorem State.withPending_store (s : State) (x : List Instr) : (s.withPending x).store = s.store := rfl
@[simp] theorem State.withPending_engine (s : State) (x : List Instr) : (s.withPending x).engine = s.engine := rfl
@[simp] theorem State.withPending_filling (s : State) (x : List Instr) : (s.withPending x).filling = s.filling := rfl
@[simp] theorem State.withPending_slots (s : State) (x : List Instr) : (s.withPending x).slots = s.slots := rfl
@[simp] theorem State.withPending_bus (s : State) (x : List Instr) : (s.withPending x).bus = s.bus := rfl
@[simp] theorem State.withPending_port (s : State) (x : List Instr) : (s.withPending x).port = s.port := rfl
@[simp] theorem State.withPending_attention (s : State) (x : List Instr) : (s.withPending x).attention = s.attention := rfl
@[simp] theorem State.withPending_startKind (s : State) (x : List Instr) : (s.withPending x).startKind = s.startKind := rfl
@[simp] theorem State.withPending_pending (s : State) (x : List Instr) : (s.withPending x).pending = x := rfl

/-! ## Tables of twelve -/

theorem Bay.idx_injective {a b : Bay} (h : a.idx = b.idx) : a = b := by
  cases a <;> cases b <;> first | rfl | (exact absurd h (by decide))

/-- The entry just put is the one looked up. -/
@[simp] theorem PerBay.look_put_same {α : Type} (t : PerBay α) (b : Bay) (x : α) : (t.put b x).look b = x := by
  simp [PerBay.look, PerBay.put]

/-- Putting one bay's entry leaves the others. -/
theorem PerBay.look_put_ne {α : Type} (t : PerBay α) {a b : Bay} (h : a ≠ b) (x : α) : (t.put b x).look a = t.look a := by
  have hv : b.idx.val ≠ a.idx.val := fun e => h (Bay.idx_injective (Fin.ext e.symm))
  simp [PerBay.look, PerBay.put, hv]

/-- What a lookup after a put can answer. -/
theorem PerBay.look_put {α : Type} (t : PerBay α) (a b : Bay) (x : α) :
    (t.put b x).look a = if a = b then x else t.look a := by
  split
  · subst_vars; simp
  · exact PerBay.look_put_ne t ‹_› x

/-- A table given bay by bay. -/
@[simp] theorem perBay_look {α : Type} (f : Bay → α) (b : Bay) : (perBay f).look b = f b := by cases b <;> rfl

/-- A table with one value throughout. -/
@[simp] theorem PerBay.look_replicate {α : Type} (x : α) (b : Bay) : PerBay.look (Vector.replicate 12 x) b = x := by
  simp [PerBay.look]

/-- Every bay is in the list of bays. -/
theorem Bay.mem_all (b : Bay) : b ∈ Bay.all := by cases b <;> decide

end Sys2Proof.Machine
end

