-- ==== Sys2Proof/Laws/Frames.lean ====
section
/-! SUPPORT. The shared operations: for each, the blocks of the state it leaves as they were, one lemma a block, so that a
frame is read off and no operation is unfolded for it. -/

namespace Sys2Proof.Machine

/-! ## Flags -/

@[simp] theorem State.refreshAttn_clock (s : State) : (s.refreshAttn).clock = s.clock := by
  simp only [State.refreshAttn]; simp
@[simp] theorem State.refreshAttn_drivers (s : State) : (s.refreshAttn).drivers = s.drivers := by
  simp only [State.refreshAttn]; simp
@[simp] theorem State.refreshAttn_tankers (s : State) : (s.refreshAttn).tankers = s.tankers := by
  simp only [State.refreshAttn]; simp
@[simp] theorem State.refreshAttn_consignments (s : State) : (s.refreshAttn).consignments = s.consignments := by
  simp only [State.refreshAttn]; simp
@[simp] theorem State.refreshAttn_refCounts (s : State) : (s.refreshAttn).refCounts = s.refCounts := by
  simp only [State.refreshAttn]; simp
@[simp] theorem State.refreshAttn_store (s : State) : (s.refreshAttn).store = s.store := by
  simp only [State.refreshAttn]; simp
@[simp] theorem State.refreshAttn_engine (s : State) : (s.refreshAttn).engine = s.engine := by
  simp only [State.refreshAttn]; simp
@[simp] theorem State.refreshAttn_filling (s : State) : (s.refreshAttn).filling = s.filling := by
  simp only [State.refreshAttn]; simp
@[simp] theorem State.refreshAttn_slots (s : State) : (s.refreshAttn).slots = s.slots := by
  simp only [State.refreshAttn]; simp
@[simp] theorem State.refreshAttn_bus (s : State) : (s.refreshAttn).bus = s.bus := by
  simp only [State.refreshAttn]; simp
@[simp] theorem State.refreshAttn_port (s : State) : (s.refreshAttn).port = s.port := by
  simp only [State.refreshAttn]; simp
@[simp] theorem State.refreshAttn_startKind (s : State) : (s.refreshAttn).startKind = s.startKind := by
  simp only [State.refreshAttn]; simp
@[simp] theorem State.refreshAttn_pending (s : State) : (s.refreshAttn).pending = s.pending := by
  simp only [State.refreshAttn]; simp

@[simp] theorem State.setFlags_clock (s : State) (g : Mask) (bs : PerBay Mask) : (s.setFlags g bs).clock = s.clock := by
  simp only [State.setFlags]; simp
@[simp] theorem State.setFlags_drivers (s : State) (g : Mask) (bs : PerBay Mask) : (s.setFlags g bs).drivers = s.drivers := by
  simp only [State.setFlags]; simp
@[simp] theorem State.setFlags_tankers (s : State) (g : Mask) (bs : PerBay Mask) : (s.setFlags g bs).tankers = s.tankers := by
  simp only [State.setFlags]; simp
@[simp] theorem State.setFlags_consignments (s : State) (g : Mask) (bs : PerBay Mask) : (s.setFlags g bs).consignments = s.consignments := by
  simp only [State.setFlags]; simp
@[simp] theorem State.setFlags_refCounts (s : State) (g : Mask) (bs : PerBay Mask) : (s.setFlags g bs).refCounts = s.refCounts := by
  simp only [State.setFlags]; simp
@[simp] theorem State.setFlags_store (s : State) (g : Mask) (bs : PerBay Mask) : (s.setFlags g bs).store = s.store := by
  simp only [State.setFlags]; simp
@[simp] theorem State.setFlags_engine (s : State) (g : Mask) (bs : PerBay Mask) : (s.setFlags g bs).engine = s.engine := by
  simp only [State.setFlags]; simp
@[simp] theorem State.setFlags_filling (s : State) (g : Mask) (bs : PerBay Mask) : (s.setFlags g bs).filling = s.filling := by
  simp only [State.setFlags]; simp
@[simp] theorem State.setFlags_slots (s : State) (g : Mask) (bs : PerBay Mask) : (s.setFlags g bs).slots = s.slots := by
  simp only [State.setFlags]; simp
@[simp] theorem State.setFlags_bus (s : State) (g : Mask) (bs : PerBay Mask) : (s.setFlags g bs).bus = s.bus := by
  simp only [State.setFlags]; simp
@[simp] theorem State.setFlags_port (s : State) (g : Mask) (bs : PerBay Mask) : (s.setFlags g bs).port = s.port := by
  simp only [State.setFlags]; simp
@[simp] theorem State.setFlags_startKind (s : State) (g : Mask) (bs : PerBay Mask) : (s.setFlags g bs).startKind = s.startKind := by
  simp only [State.setFlags]; simp
@[simp] theorem State.setFlags_pending (s : State) (g : Mask) (bs : PerBay Mask) : (s.setFlags g bs).pending = s.pending := by
  simp only [State.setFlags]; simp

@[simp] theorem State.raiseGantry_clock (s : State) (k : GantryKind) : (s.raiseGantry k).clock = s.clock := by
  simp only [State.raiseGantry]; simp
@[simp] theorem State.raiseGantry_drivers (s : State) (k : GantryKind) : (s.raiseGantry k).drivers = s.drivers := by
  simp only [State.raiseGantry]; simp
@[simp] theorem State.raiseGantry_tankers (s : State) (k : GantryKind) : (s.raiseGantry k).tankers = s.tankers := by
  simp only [State.raiseGantry]; simp
@[simp] theorem State.raiseGantry_consignments (s : State) (k : GantryKind) : (s.raiseGantry k).consignments = s.consignments := by
  simp only [State.raiseGantry]; simp
@[simp] theorem State.raiseGantry_refCounts (s : State) (k : GantryKind) : (s.raiseGantry k).refCounts = s.refCounts := by
  simp only [State.raiseGantry]; simp
@[simp] theorem State.raiseGantry_store (s : State) (k : GantryKind) : (s.raiseGantry k).store = s.store := by
  simp only [State.raiseGantry]; simp
@[simp] theorem State.raiseGantry_engine (s : State) (k : GantryKind) : (s.raiseGantry k).engine = s.engine := by
  simp only [State.raiseGantry]; simp
@[simp] theorem State.raiseGantry_filling (s : State) (k : GantryKind) : (s.raiseGantry k).filling = s.filling := by
  simp only [State.raiseGantry]; simp
@[simp] theorem State.raiseGantry_slots (s : State) (k : GantryKind) : (s.raiseGantry k).slots = s.slots := by
  simp only [State.raiseGantry]; simp
@[simp] theorem State.raiseGantry_bus (s : State) (k : GantryKind) : (s.raiseGantry k).bus = s.bus := by
  simp only [State.raiseGantry]; simp
@[simp] theorem State.raiseGantry_port (s : State) (k : GantryKind) : (s.raiseGantry k).port = s.port := by
  simp only [State.raiseGantry]; simp
@[simp] theorem State.raiseGantry_startKind (s : State) (k : GantryKind) : (s.raiseGantry k).startKind = s.startKind := by
  simp only [State.raiseGantry]; simp
@[simp] theorem State.raiseGantry_pending (s : State) (k : GantryKind) : (s.raiseGantry k).pending = s.pending := by
  simp only [State.raiseGantry]; simp

@[simp] theorem State.raiseBay_clock (s : State) (b : Bay) (k : BayKind) : (s.raiseBay b k).clock = s.clock := by
  simp only [State.raiseBay]; simp
@[simp] theorem State.raiseBay_drivers (s : State) (b : Bay) (k : BayKind) : (s.raiseBay b k).drivers = s.drivers := by
  simp only [State.raiseBay]; simp
@[simp] theorem State.raiseBay_tankers (s : State) (b : Bay) (k : BayKind) : (s.raiseBay b k).tankers = s.tankers := by
  simp only [State.raiseBay]; simp
@[simp] theorem State.raiseBay_consignments (s : State) (b : Bay) (k : BayKind) : (s.raiseBay b k).consignments = s.consignments := by
  simp only [State.raiseBay]; simp
@[simp] theorem State.raiseBay_refCounts (s : State) (b : Bay) (k : BayKind) : (s.raiseBay b k).refCounts = s.refCounts := by
  simp only [State.raiseBay]; simp
@[simp] theorem State.raiseBay_store (s : State) (b : Bay) (k : BayKind) : (s.raiseBay b k).store = s.store := by
  simp only [State.raiseBay]; simp
@[simp] theorem State.raiseBay_engine (s : State) (b : Bay) (k : BayKind) : (s.raiseBay b k).engine = s.engine := by
  simp only [State.raiseBay]; simp
@[simp] theorem State.raiseBay_filling (s : State) (b : Bay) (k : BayKind) : (s.raiseBay b k).filling = s.filling := by
  simp only [State.raiseBay]; simp
@[simp] theorem State.raiseBay_slots (s : State) (b : Bay) (k : BayKind) : (s.raiseBay b k).slots = s.slots := by
  simp only [State.raiseBay]; simp
@[simp] theorem State.raiseBay_bus (s : State) (b : Bay) (k : BayKind) : (s.raiseBay b k).bus = s.bus := by
  simp only [State.raiseBay]; simp
@[simp] theorem State.raiseBay_port (s : State) (b : Bay) (k : BayKind) : (s.raiseBay b k).port = s.port := by
  simp only [State.raiseBay]; simp
@[simp] theorem State.raiseBay_startKind (s : State) (b : Bay) (k : BayKind) : (s.raiseBay b k).startKind = s.startKind := by
  simp only [State.raiseBay]; simp
@[simp] theorem State.raiseBay_pending (s : State) (b : Bay) (k : BayKind) : (s.raiseBay b k).pending = s.pending := by
  simp only [State.raiseBay]; simp

/-! ## Registers -/

@[simp] theorem State.updateDriver_clock (s : State) (n : Nat) (f : Driver → Driver) : (s.updateDriver n f).clock = s.clock := by
  simp only [State.updateDriver]; simp
@[simp] theorem State.updateDriver_tankers (s : State) (n : Nat) (f : Driver → Driver) : (s.updateDriver n f).tankers = s.tankers := by
  simp only [State.updateDriver]; simp
@[simp] theorem State.updateDriver_consignments (s : State) (n : Nat) (f : Driver → Driver) : (s.updateDriver n f).consignments = s.consignments := by
  simp only [State.updateDriver]; simp
@[simp] theorem State.updateDriver_refCounts (s : State) (n : Nat) (f : Driver → Driver) : (s.updateDriver n f).refCounts = s.refCounts := by
  simp only [State.updateDriver]; simp
@[simp] theorem State.updateDriver_store (s : State) (n : Nat) (f : Driver → Driver) : (s.updateDriver n f).store = s.store := by
  simp only [State.updateDriver]; simp
@[simp] theorem State.updateDriver_engine (s : State) (n : Nat) (f : Driver → Driver) : (s.updateDriver n f).engine = s.engine := by
  simp only [State.updateDriver]; simp
@[simp] theorem State.updateDriver_filling (s : State) (n : Nat) (f : Driver → Driver) : (s.updateDriver n f).filling = s.filling := by
  simp only [State.updateDriver]; simp
@[simp] theorem State.updateDriver_slots (s : State) (n : Nat) (f : Driver → Driver) : (s.updateDriver n f).slots = s.slots := by
  simp only [State.updateDriver]; simp
@[simp] theorem State.updateDriver_bus (s : State) (n : Nat) (f : Driver → Driver) : (s.updateDriver n f).bus = s.bus := by
  simp only [State.updateDriver]; simp
@[simp] theorem State.updateDriver_port (s : State) (n : Nat) (f : Driver → Driver) : (s.updateDriver n f).port = s.port := by
  simp only [State.updateDriver]; simp
@[simp] theorem State.updateDriver_attention (s : State) (n : Nat) (f : Driver → Driver) : (s.updateDriver n f).attention = s.attention := by
  simp only [State.updateDriver]; simp
@[simp] theorem State.updateDriver_startKind (s : State) (n : Nat) (f : Driver → Driver) : (s.updateDriver n f).startKind = s.startKind := by
  simp only [State.updateDriver]; simp
@[simp] theorem State.updateDriver_pending (s : State) (n : Nat) (f : Driver → Driver) : (s.updateDriver n f).pending = s.pending := by
  simp only [State.updateDriver]; simp

@[simp] theorem State.updateTanker_clock (s : State) (n : Nat) (f : Tanker → Tanker) : (s.updateTanker n f).clock = s.clock := by
  simp only [State.updateTanker]; simp
@[simp] theorem State.updateTanker_drivers (s : State) (n : Nat) (f : Tanker → Tanker) : (s.updateTanker n f).drivers = s.drivers := by
  simp only [State.updateTanker]; simp
@[simp] theorem State.updateTanker_consignments (s : State) (n : Nat) (f : Tanker → Tanker) : (s.updateTanker n f).consignments = s.consignments := by
  simp only [State.updateTanker]; simp
@[simp] theorem State.updateTanker_refCounts (s : State) (n : Nat) (f : Tanker → Tanker) : (s.updateTanker n f).refCounts = s.refCounts := by
  simp only [State.updateTanker]; simp
@[simp] theorem State.updateTanker_store (s : State) (n : Nat) (f : Tanker → Tanker) : (s.updateTanker n f).store = s.store := by
  simp only [State.updateTanker]; simp
@[simp] theorem State.updateTanker_engine (s : State) (n : Nat) (f : Tanker → Tanker) : (s.updateTanker n f).engine = s.engine := by
  simp only [State.updateTanker]; simp
@[simp] theorem State.updateTanker_filling (s : State) (n : Nat) (f : Tanker → Tanker) : (s.updateTanker n f).filling = s.filling := by
  simp only [State.updateTanker]; simp
@[simp] theorem State.updateTanker_slots (s : State) (n : Nat) (f : Tanker → Tanker) : (s.updateTanker n f).slots = s.slots := by
  simp only [State.updateTanker]; simp
@[simp] theorem State.updateTanker_bus (s : State) (n : Nat) (f : Tanker → Tanker) : (s.updateTanker n f).bus = s.bus := by
  simp only [State.updateTanker]; simp
@[simp] theorem State.updateTanker_port (s : State) (n : Nat) (f : Tanker → Tanker) : (s.updateTanker n f).port = s.port := by
  simp only [State.updateTanker]; simp
@[simp] theorem State.updateTanker_attention (s : State) (n : Nat) (f : Tanker → Tanker) : (s.updateTanker n f).attention = s.attention := by
  simp only [State.updateTanker]; simp
@[simp] theorem State.updateTanker_startKind (s : State) (n : Nat) (f : Tanker → Tanker) : (s.updateTanker n f).startKind = s.startKind := by
  simp only [State.updateTanker]; simp
@[simp] theorem State.updateTanker_pending (s : State) (n : Nat) (f : Tanker → Tanker) : (s.updateTanker n f).pending = s.pending := by
  simp only [State.updateTanker]; simp

@[simp] theorem State.setDrained_clock (s : State) (n c : Nat) (v : Bool) : (s.setDrained n c v).clock = s.clock := by
  simp only [State.setDrained]; simp
@[simp] theorem State.setDrained_drivers (s : State) (n c : Nat) (v : Bool) : (s.setDrained n c v).drivers = s.drivers := by
  simp only [State.setDrained]; simp
@[simp] theorem State.setDrained_consignments (s : State) (n c : Nat) (v : Bool) : (s.setDrained n c v).consignments = s.consignments := by
  simp only [State.setDrained]; simp
@[simp] theorem State.setDrained_refCounts (s : State) (n c : Nat) (v : Bool) : (s.setDrained n c v).refCounts = s.refCounts := by
  simp only [State.setDrained]; simp
@[simp] theorem State.setDrained_store (s : State) (n c : Nat) (v : Bool) : (s.setDrained n c v).store = s.store := by
  simp only [State.setDrained]; simp
@[simp] theorem State.setDrained_engine (s : State) (n c : Nat) (v : Bool) : (s.setDrained n c v).engine = s.engine := by
  simp only [State.setDrained]; simp
@[simp] theorem State.setDrained_filling (s : State) (n c : Nat) (v : Bool) : (s.setDrained n c v).filling = s.filling := by
  simp only [State.setDrained]; simp
@[simp] theorem State.setDrained_slots (s : State) (n c : Nat) (v : Bool) : (s.setDrained n c v).slots = s.slots := by
  simp only [State.setDrained]; simp
@[simp] theorem State.setDrained_bus (s : State) (n c : Nat) (v : Bool) : (s.setDrained n c v).bus = s.bus := by
  simp only [State.setDrained]; simp
@[simp] theorem State.setDrained_port (s : State) (n c : Nat) (v : Bool) : (s.setDrained n c v).port = s.port := by
  simp only [State.setDrained]; simp
@[simp] theorem State.setDrained_attention (s : State) (n c : Nat) (v : Bool) : (s.setDrained n c v).attention = s.attention := by
  simp only [State.setDrained]; simp
@[simp] theorem State.setDrained_startKind (s : State) (n c : Nat) (v : Bool) : (s.setDrained n c v).startKind = s.startKind := by
  simp only [State.setDrained]; simp
@[simp] theorem State.setDrained_pending (s : State) (n c : Nat) (v : Bool) : (s.setDrained n c v).pending = s.pending := by
  simp only [State.setDrained]; simp

@[simp] theorem State.updateConsignment_clock (s : State) (n : Nat) (f : Consignment → Consignment) : (s.updateConsignment n f).clock = s.clock := by
  simp only [State.updateConsignment]; simp
@[simp] theorem State.updateConsignment_drivers (s : State) (n : Nat) (f : Consignment → Consignment) : (s.updateConsignment n f).drivers = s.drivers := by
  simp only [State.updateConsignment]; simp
@[simp] theorem State.updateConsignment_tankers (s : State) (n : Nat) (f : Consignment → Consignment) : (s.updateConsignment n f).tankers = s.tankers := by
  simp only [State.updateConsignment]; simp
@[simp] theorem State.updateConsignment_refCounts (s : State) (n : Nat) (f : Consignment → Consignment) : (s.updateConsignment n f).refCounts = s.refCounts := by
  simp only [State.updateConsignment]; simp
@[simp] theorem State.updateConsignment_store (s : State) (n : Nat) (f : Consignment → Consignment) : (s.updateConsignment n f).store = s.store := by
  simp only [State.updateConsignment]; simp
@[simp] theorem State.updateConsignment_engine (s : State) (n : Nat) (f : Consignment → Consignment) : (s.updateConsignment n f).engine = s.engine := by
  simp only [State.updateConsignment]; simp
@[simp] theorem State.updateConsignment_filling (s : State) (n : Nat) (f : Consignment → Consignment) : (s.updateConsignment n f).filling = s.filling := by
  simp only [State.updateConsignment]; simp
@[simp] theorem State.updateConsignment_slots (s : State) (n : Nat) (f : Consignment → Consignment) : (s.updateConsignment n f).slots = s.slots := by
  simp only [State.updateConsignment]; simp
@[simp] theorem State.updateConsignment_bus (s : State) (n : Nat) (f : Consignment → Consignment) : (s.updateConsignment n f).bus = s.bus := by
  simp only [State.updateConsignment]; simp
@[simp] theorem State.updateConsignment_port (s : State) (n : Nat) (f : Consignment → Consignment) : (s.updateConsignment n f).port = s.port := by
  simp only [State.updateConsignment]; simp
@[simp] theorem State.updateConsignment_attention (s : State) (n : Nat) (f : Consignment → Consignment) : (s.updateConsignment n f).attention = s.attention := by
  simp only [State.updateConsignment]; simp
@[simp] theorem State.updateConsignment_startKind (s : State) (n : Nat) (f : Consignment → Consignment) : (s.updateConsignment n f).startKind = s.startKind := by
  simp only [State.updateConsignment]; simp
@[simp] theorem State.updateConsignment_pending (s : State) (n : Nat) (f : Consignment → Consignment) : (s.updateConsignment n f).pending = s.pending := by
  simp only [State.updateConsignment]; simp

@[simp] theorem State.updateLine_clock (s : State) (n c : Nat) (f : Line → Line) : (s.updateLine n c f).clock = s.clock := by
  simp only [State.updateLine]; simp
@[simp] theorem State.updateLine_drivers (s : State) (n c : Nat) (f : Line → Line) : (s.updateLine n c f).drivers = s.drivers := by
  simp only [State.updateLine]; simp
@[simp] theorem State.updateLine_tankers (s : State) (n c : Nat) (f : Line → Line) : (s.updateLine n c f).tankers = s.tankers := by
  simp only [State.updateLine]; simp
@[simp] theorem State.updateLine_refCounts (s : State) (n c : Nat) (f : Line → Line) : (s.updateLine n c f).refCounts = s.refCounts := by
  simp only [State.updateLine]; simp
@[simp] theorem State.updateLine_store (s : State) (n c : Nat) (f : Line → Line) : (s.updateLine n c f).store = s.store := by
  simp only [State.updateLine]; simp
@[simp] theorem State.updateLine_engine (s : State) (n c : Nat) (f : Line → Line) : (s.updateLine n c f).engine = s.engine := by
  simp only [State.updateLine]; simp
@[simp] theorem State.updateLine_filling (s : State) (n c : Nat) (f : Line → Line) : (s.updateLine n c f).filling = s.filling := by
  simp only [State.updateLine]; simp
@[simp] theorem State.updateLine_slots (s : State) (n c : Nat) (f : Line → Line) : (s.updateLine n c f).slots = s.slots := by
  simp only [State.updateLine]; simp
@[simp] theorem State.updateLine_bus (s : State) (n c : Nat) (f : Line → Line) : (s.updateLine n c f).bus = s.bus := by
  simp only [State.updateLine]; simp
@[simp] theorem State.updateLine_port (s : State) (n c : Nat) (f : Line → Line) : (s.updateLine n c f).port = s.port := by
  simp only [State.updateLine]; simp
@[simp] theorem State.updateLine_attention (s : State) (n c : Nat) (f : Line → Line) : (s.updateLine n c f).attention = s.attention := by
  simp only [State.updateLine]; simp
@[simp] theorem State.updateLine_startKind (s : State) (n c : Nat) (f : Line → Line) : (s.updateLine n c f).startKind = s.startKind := by
  simp only [State.updateLine]; simp
@[simp] theorem State.updateLine_pending (s : State) (n c : Nat) (f : Line → Line) : (s.updateLine n c f).pending = s.pending := by
  simp only [State.updateLine]; simp

@[simp] theorem State.countUp_clock (s : State) (p : Nat) : (s.countUp p).clock = s.clock := by
  simp only [State.countUp]; simp
@[simp] theorem State.countUp_drivers (s : State) (p : Nat) : (s.countUp p).drivers = s.drivers := by
  simp only [State.countUp]; simp
@[simp] theorem State.countUp_tankers (s : State) (p : Nat) : (s.countUp p).tankers = s.tankers := by
  simp only [State.countUp]; simp
@[simp] theorem State.countUp_consignments (s : State) (p : Nat) : (s.countUp p).consignments = s.consignments := by
  simp only [State.countUp]; simp
@[simp] theorem State.countUp_store (s : State) (p : Nat) : (s.countUp p).store = s.store := by
  simp only [State.countUp]; simp
@[simp] theorem State.countUp_engine (s : State) (p : Nat) : (s.countUp p).engine = s.engine := by
  simp only [State.countUp]; simp
@[simp] theorem State.countUp_filling (s : State) (p : Nat) : (s.countUp p).filling = s.filling := by
  simp only [State.countUp]; simp
@[simp] theorem State.countUp_slots (s : State) (p : Nat) : (s.countUp p).slots = s.slots := by
  simp only [State.countUp]; simp
@[simp] theorem State.countUp_bus (s : State) (p : Nat) : (s.countUp p).bus = s.bus := by
  simp only [State.countUp]; simp
@[simp] theorem State.countUp_port (s : State) (p : Nat) : (s.countUp p).port = s.port := by
  simp only [State.countUp]; simp
@[simp] theorem State.countUp_attention (s : State) (p : Nat) : (s.countUp p).attention = s.attention := by
  simp only [State.countUp]; simp
@[simp] theorem State.countUp_startKind (s : State) (p : Nat) : (s.countUp p).startKind = s.startKind := by
  simp only [State.countUp]; simp
@[simp] theorem State.countUp_pending (s : State) (p : Nat) : (s.countUp p).pending = s.pending := by
  simp only [State.countUp]; simp

@[simp] theorem State.countDown_clock (s : State) (p : Nat) : (s.countDown p).clock = s.clock := by
  simp only [State.countDown]; simp
@[simp] theorem State.countDown_drivers (s : State) (p : Nat) : (s.countDown p).drivers = s.drivers := by
  simp only [State.countDown]; simp
@[simp] theorem State.countDown_tankers (s : State) (p : Nat) : (s.countDown p).tankers = s.tankers := by
  simp only [State.countDown]; simp
@[simp] theorem State.countDown_consignments (s : State) (p : Nat) : (s.countDown p).consignments = s.consignments := by
  simp only [State.countDown]; simp
@[simp] theorem State.countDown_store (s : State) (p : Nat) : (s.countDown p).store = s.store := by
  simp only [State.countDown]; simp
@[simp] theorem State.countDown_engine (s : State) (p : Nat) : (s.countDown p).engine = s.engine := by
  simp only [State.countDown]; simp
@[simp] theorem State.countDown_filling (s : State) (p : Nat) : (s.countDown p).filling = s.filling := by
  simp only [State.countDown]; simp
@[simp] theorem State.countDown_slots (s : State) (p : Nat) : (s.countDown p).slots = s.slots := by
  simp only [State.countDown]; simp
@[simp] theorem State.countDown_bus (s : State) (p : Nat) : (s.countDown p).bus = s.bus := by
  simp only [State.countDown]; simp
@[simp] theorem State.countDown_port (s : State) (p : Nat) : (s.countDown p).port = s.port := by
  simp only [State.countDown]; simp
@[simp] theorem State.countDown_attention (s : State) (p : Nat) : (s.countDown p).attention = s.attention := by
  simp only [State.countDown]; simp
@[simp] theorem State.countDown_startKind (s : State) (p : Nat) : (s.countDown p).startKind = s.startKind := by
  simp only [State.countDown]; simp
@[simp] theorem State.countDown_pending (s : State) (p : Nat) : (s.countDown p).pending = s.pending := by
  simp only [State.countDown]; simp

/-! ## Slots -/

@[simp] theorem State.updateSlot_clock (s : State) (b : Bay) (f : Slot → Slot) : (s.updateSlot b f).clock = s.clock := by
  simp only [State.updateSlot]; simp
@[simp] theorem State.updateSlot_drivers (s : State) (b : Bay) (f : Slot → Slot) : (s.updateSlot b f).drivers = s.drivers := by
  simp only [State.updateSlot]; simp
@[simp] theorem State.updateSlot_tankers (s : State) (b : Bay) (f : Slot → Slot) : (s.updateSlot b f).tankers = s.tankers := by
  simp only [State.updateSlot]; simp
@[simp] theorem State.updateSlot_consignments (s : State) (b : Bay) (f : Slot → Slot) : (s.updateSlot b f).consignments = s.consignments := by
  simp only [State.updateSlot]; simp
@[simp] theorem State.updateSlot_refCounts (s : State) (b : Bay) (f : Slot → Slot) : (s.updateSlot b f).refCounts = s.refCounts := by
  simp only [State.updateSlot]; simp
@[simp] theorem State.updateSlot_store (s : State) (b : Bay) (f : Slot → Slot) : (s.updateSlot b f).store = s.store := by
  simp only [State.updateSlot]; simp
@[simp] theorem State.updateSlot_engine (s : State) (b : Bay) (f : Slot → Slot) : (s.updateSlot b f).engine = s.engine := by
  simp only [State.updateSlot]; simp
@[simp] theorem State.updateSlot_filling (s : State) (b : Bay) (f : Slot → Slot) : (s.updateSlot b f).filling = s.filling := by
  simp only [State.updateSlot]; simp
@[simp] theorem State.updateSlot_bus (s : State) (b : Bay) (f : Slot → Slot) : (s.updateSlot b f).bus = s.bus := by
  simp only [State.updateSlot]; simp
@[simp] theorem State.updateSlot_port (s : State) (b : Bay) (f : Slot → Slot) : (s.updateSlot b f).port = s.port := by
  simp only [State.updateSlot]; simp
@[simp] theorem State.updateSlot_attention (s : State) (b : Bay) (f : Slot → Slot) : (s.updateSlot b f).attention = s.attention := by
  simp only [State.updateSlot]; simp
@[simp] theorem State.updateSlot_startKind (s : State) (b : Bay) (f : Slot → Slot) : (s.updateSlot b f).startKind = s.startKind := by
  simp only [State.updateSlot]; simp
@[simp] theorem State.updateSlot_pending (s : State) (b : Bay) (f : Slot → Slot) : (s.updateSlot b f).pending = s.pending := by
  simp only [State.updateSlot]; simp

@[simp] theorem State.setPermitSlot_clock (s : State) (b : Bay) (p : PermitSlot) : (s.setPermitSlot b p).clock = s.clock := by
  simp only [State.setPermitSlot]; simp
@[simp] theorem State.setPermitSlot_drivers (s : State) (b : Bay) (p : PermitSlot) : (s.setPermitSlot b p).drivers = s.drivers := by
  simp only [State.setPermitSlot]; simp
@[simp] theorem State.setPermitSlot_tankers (s : State) (b : Bay) (p : PermitSlot) : (s.setPermitSlot b p).tankers = s.tankers := by
  simp only [State.setPermitSlot]; simp
@[simp] theorem State.setPermitSlot_consignments (s : State) (b : Bay) (p : PermitSlot) : (s.setPermitSlot b p).consignments = s.consignments := by
  simp only [State.setPermitSlot]; simp
@[simp] theorem State.setPermitSlot_refCounts (s : State) (b : Bay) (p : PermitSlot) : (s.setPermitSlot b p).refCounts = s.refCounts := by
  simp only [State.setPermitSlot]; simp
@[simp] theorem State.setPermitSlot_store (s : State) (b : Bay) (p : PermitSlot) : (s.setPermitSlot b p).store = s.store := by
  simp only [State.setPermitSlot]; simp
@[simp] theorem State.setPermitSlot_engine (s : State) (b : Bay) (p : PermitSlot) : (s.setPermitSlot b p).engine = s.engine := by
  simp only [State.setPermitSlot]; simp
@[simp] theorem State.setPermitSlot_slots (s : State) (b : Bay) (p : PermitSlot) : (s.setPermitSlot b p).slots = s.slots := by
  simp only [State.setPermitSlot]; simp
@[simp] theorem State.setPermitSlot_bus (s : State) (b : Bay) (p : PermitSlot) : (s.setPermitSlot b p).bus = s.bus := by
  simp only [State.setPermitSlot]; simp
@[simp] theorem State.setPermitSlot_port (s : State) (b : Bay) (p : PermitSlot) : (s.setPermitSlot b p).port = s.port := by
  simp only [State.setPermitSlot]; simp
@[simp] theorem State.setPermitSlot_attention (s : State) (b : Bay) (p : PermitSlot) : (s.setPermitSlot b p).attention = s.attention := by
  simp only [State.setPermitSlot]; simp
@[simp] theorem State.setPermitSlot_startKind (s : State) (b : Bay) (p : PermitSlot) : (s.setPermitSlot b p).startKind = s.startKind := by
  simp only [State.setPermitSlot]; simp
@[simp] theorem State.setPermitSlot_pending (s : State) (b : Bay) (p : PermitSlot) : (s.setPermitSlot b p).pending = s.pending := by
  simp only [State.setPermitSlot]; simp

@[simp] theorem State.setStallTable_clock (s : State) (t : List StallEntry) : (s.setStallTable t).clock = s.clock := by
  simp only [State.setStallTable]; simp
@[simp] theorem State.setStallTable_drivers (s : State) (t : List StallEntry) : (s.setStallTable t).drivers = s.drivers := by
  simp only [State.setStallTable]; simp
@[simp] theorem State.setStallTable_tankers (s : State) (t : List StallEntry) : (s.setStallTable t).tankers = s.tankers := by
  simp only [State.setStallTable]; simp
@[simp] theorem State.setStallTable_consignments (s : State) (t : List StallEntry) : (s.setStallTable t).consignments = s.consignments := by
  simp only [State.setStallTable]; simp
@[simp] theorem State.setStallTable_refCounts (s : State) (t : List StallEntry) : (s.setStallTable t).refCounts = s.refCounts := by
  simp only [State.setStallTable]; simp
@[simp] theorem State.setStallTable_store (s : State) (t : List StallEntry) : (s.setStallTable t).store = s.store := by
  simp only [State.setStallTable]; simp
@[simp] theorem State.setStallTable_engine (s : State) (t : List StallEntry) : (s.setStallTable t).engine = s.engine := by
  simp only [State.setStallTable]; simp
@[simp] theorem State.setStallTable_slots (s : State) (t : List StallEntry) : (s.setStallTable t).slots = s.slots := by
  simp only [State.setStallTable]; simp
@[simp] theorem State.setStallTable_bus (s : State) (t : List StallEntry) : (s.setStallTable t).bus = s.bus := by
  simp only [State.setStallTable]; simp
@[simp] theorem State.setStallTable_port (s : State) (t : List StallEntry) : (s.setStallTable t).port = s.port := by
  simp only [State.setStallTable]; simp
@[simp] theorem State.setStallTable_attention (s : State) (t : List StallEntry) : (s.setStallTable t).attention = s.attention := by
  simp only [State.setStallTable]; simp
@[simp] theorem State.setStallTable_startKind (s : State) (t : List StallEntry) : (s.setStallTable t).startKind = s.startKind := by
  simp only [State.setStallTable]; simp
@[simp] theorem State.setStallTable_pending (s : State) (t : List StallEntry) : (s.setStallTable t).pending = s.pending := by
  simp only [State.setStallTable]; simp

@[simp] theorem State.dropStallEntry_clock (s : State) (n c : Nat) : (s.dropStallEntry n c).clock = s.clock := by
  simp only [State.dropStallEntry]; simp
@[simp] theorem State.dropStallEntry_drivers (s : State) (n c : Nat) : (s.dropStallEntry n c).drivers = s.drivers := by
  simp only [State.dropStallEntry]; simp
@[simp] theorem State.dropStallEntry_tankers (s : State) (n c : Nat) : (s.dropStallEntry n c).tankers = s.tankers := by
  simp only [State.dropStallEntry]; simp
@[simp] theorem State.dropStallEntry_consignments (s : State) (n c : Nat) : (s.dropStallEntry n c).consignments = s.consignments := by
  simp only [State.dropStallEntry]; simp
@[simp] theorem State.dropStallEntry_refCounts (s : State) (n c : Nat) : (s.dropStallEntry n c).refCounts = s.refCounts := by
  simp only [State.dropStallEntry]; simp
@[simp] theorem State.dropStallEntry_store (s : State) (n c : Nat) : (s.dropStallEntry n c).store = s.store := by
  simp only [State.dropStallEntry]; simp
@[simp] theorem State.dropStallEntry_engine (s : State) (n c : Nat) : (s.dropStallEntry n c).engine = s.engine := by
  simp only [State.dropStallEntry]; simp
@[simp] theorem State.dropStallEntry_slots (s : State) (n c : Nat) : (s.dropStallEntry n c).slots = s.slots := by
  simp only [State.dropStallEntry]; simp
@[simp] theorem State.dropStallEntry_bus (s : State) (n c : Nat) : (s.dropStallEntry n c).bus = s.bus := by
  simp only [State.dropStallEntry]; simp
@[simp] theorem State.dropStallEntry_port (s : State) (n c : Nat) : (s.dropStallEntry n c).port = s.port := by
  simp only [State.dropStallEntry]; simp
@[simp] theorem State.dropStallEntry_attention (s : State) (n c : Nat) : (s.dropStallEntry n c).attention = s.attention := by
  simp only [State.dropStallEntry]; simp
@[simp] theorem State.dropStallEntry_startKind (s : State) (n c : Nat) : (s.dropStallEntry n c).startKind = s.startKind := by
  simp only [State.dropStallEntry]; simp
@[simp] theorem State.dropStallEntry_pending (s : State) (n c : Nat) : (s.dropStallEntry n c).pending = s.pending := by
  simp only [State.dropStallEntry]; simp

@[simp] theorem State.addStallEntry_clock (s : State) (e : StallEntry) : (s.addStallEntry e).clock = s.clock := by
  simp only [State.addStallEntry]; simp
@[simp] theorem State.addStallEntry_drivers (s : State) (e : StallEntry) : (s.addStallEntry e).drivers = s.drivers := by
  simp only [State.addStallEntry]; simp
@[simp] theorem State.addStallEntry_tankers (s : State) (e : StallEntry) : (s.addStallEntry e).tankers = s.tankers := by
  simp only [State.addStallEntry]; simp
@[simp] theorem State.addStallEntry_consignments (s : State) (e : StallEntry) : (s.addStallEntry e).consignments = s.consignments := by
  simp only [State.addStallEntry]; simp
@[simp] theorem State.addStallEntry_refCounts (s : State) (e : StallEntry) : (s.addStallEntry e).refCounts = s.refCounts := by
  simp only [State.addStallEntry]; simp
@[simp] theorem State.addStallEntry_store (s : State) (e : StallEntry) : (s.addStallEntry e).store = s.store := by
  simp only [State.addStallEntry]; simp
@[simp] theorem State.addStallEntry_engine (s : State) (e : StallEntry) : (s.addStallEntry e).engine = s.engine := by
  simp only [State.addStallEntry]; simp
@[simp] theorem State.addStallEntry_slots (s : State) (e : StallEntry) : (s.addStallEntry e).slots = s.slots := by
  simp only [State.addStallEntry]; simp
@[simp] theorem State.addStallEntry_bus (s : State) (e : StallEntry) : (s.addStallEntry e).bus = s.bus := by
  simp only [State.addStallEntry]; simp
@[simp] theorem State.addStallEntry_port (s : State) (e : StallEntry) : (s.addStallEntry e).port = s.port := by
  simp only [State.addStallEntry]; simp
@[simp] theorem State.addStallEntry_attention (s : State) (e : StallEntry) : (s.addStallEntry e).attention = s.attention := by
  simp only [State.addStallEntry]; simp
@[simp] theorem State.addStallEntry_startKind (s : State) (e : StallEntry) : (s.addStallEntry e).startKind = s.startKind := by
  simp only [State.addStallEntry]; simp
@[simp] theorem State.addStallEntry_pending (s : State) (e : StallEntry) : (s.addStallEntry e).pending = s.pending := by
  simp only [State.addStallEntry]; simp

/-! ## Bus queues -/

@[simp] theorem State.queueCommand_clock (s : State) (b : Bay) (c : BusCommand) : (s.queueCommand b c).clock = s.clock := by
  simp only [State.queueCommand]; (repeat' split) <;> simp
@[simp] theorem State.queueCommand_drivers (s : State) (b : Bay) (c : BusCommand) : (s.queueCommand b c).drivers = s.drivers := by
  simp only [State.queueCommand]; (repeat' split) <;> simp
@[simp] theorem State.queueCommand_tankers (s : State) (b : Bay) (c : BusCommand) : (s.queueCommand b c).tankers = s.tankers := by
  simp only [State.queueCommand]; (repeat' split) <;> simp
@[simp] theorem State.queueCommand_consignments (s : State) (b : Bay) (c : BusCommand) : (s.queueCommand b c).consignments = s.consignments := by
  simp only [State.queueCommand]; (repeat' split) <;> simp
@[simp] theorem State.queueCommand_refCounts (s : State) (b : Bay) (c : BusCommand) : (s.queueCommand b c).refCounts = s.refCounts := by
  simp only [State.queueCommand]; (repeat' split) <;> simp
@[simp] theorem State.queueCommand_store (s : State) (b : Bay) (c : BusCommand) : (s.queueCommand b c).store = s.store := by
  simp only [State.queueCommand]; (repeat' split) <;> simp
@[simp] theorem State.queueCommand_engine (s : State) (b : Bay) (c : BusCommand) : (s.queueCommand b c).engine = s.engine := by
  simp only [State.queueCommand]; (repeat' split) <;> simp
@[simp] theorem State.queueCommand_filling (s : State) (b : Bay) (c : BusCommand) : (s.queueCommand b c).filling = s.filling := by
  simp only [State.queueCommand]; (repeat' split) <;> simp
@[simp] theorem State.queueCommand_slots (s : State) (b : Bay) (c : BusCommand) : (s.queueCommand b c).slots = s.slots := by
  simp only [State.queueCommand]; (repeat' split) <;> simp
@[simp] theorem State.queueCommand_port (s : State) (b : Bay) (c : BusCommand) : (s.queueCommand b c).port = s.port := by
  simp only [State.queueCommand]; (repeat' split) <;> simp
@[simp] theorem State.queueCommand_startKind (s : State) (b : Bay) (c : BusCommand) : (s.queueCommand b c).startKind = s.startKind := by
  simp only [State.queueCommand]; (repeat' split) <;> simp
@[simp] theorem State.queueCommand_pending (s : State) (b : Bay) (c : BusCommand) : (s.queueCommand b c).pending = s.pending := by
  simp only [State.queueCommand]; (repeat' split) <;> simp

@[simp] theorem State.queueLamp_clock (s : State) (b : Bay) (m : Bool) : (s.queueLamp b m).clock = s.clock := by
  simp only [State.queueLamp]; (repeat' split) <;> simp
@[simp] theorem State.queueLamp_drivers (s : State) (b : Bay) (m : Bool) : (s.queueLamp b m).drivers = s.drivers := by
  simp only [State.queueLamp]; (repeat' split) <;> simp
@[simp] theorem State.queueLamp_tankers (s : State) (b : Bay) (m : Bool) : (s.queueLamp b m).tankers = s.tankers := by
  simp only [State.queueLamp]; (repeat' split) <;> simp
@[simp] theorem State.queueLamp_consignments (s : State) (b : Bay) (m : Bool) : (s.queueLamp b m).consignments = s.consignments := by
  simp only [State.queueLamp]; (repeat' split) <;> simp
@[simp] theorem State.queueLamp_refCounts (s : State) (b : Bay) (m : Bool) : (s.queueLamp b m).refCounts = s.refCounts := by
  simp only [State.queueLamp]; (repeat' split) <;> simp
@[simp] theorem State.queueLamp_store (s : State) (b : Bay) (m : Bool) : (s.queueLamp b m).store = s.store := by
  simp only [State.queueLamp]; (repeat' split) <;> simp
@[simp] theorem State.queueLamp_engine (s : State) (b : Bay) (m : Bool) : (s.queueLamp b m).engine = s.engine := by
  simp only [State.queueLamp]; (repeat' split) <;> simp
@[simp] theorem State.queueLamp_filling (s : State) (b : Bay) (m : Bool) : (s.queueLamp b m).filling = s.filling := by
  simp only [State.queueLamp]; (repeat' split) <;> simp
@[simp] theorem State.queueLamp_slots (s : State) (b : Bay) (m : Bool) : (s.queueLamp b m).slots = s.slots := by
  simp only [State.queueLamp]; (repeat' split) <;> simp
@[simp] theorem State.queueLamp_port (s : State) (b : Bay) (m : Bool) : (s.queueLamp b m).port = s.port := by
  simp only [State.queueLamp]; (repeat' split) <;> simp
@[simp] theorem State.queueLamp_startKind (s : State) (b : Bay) (m : Bool) : (s.queueLamp b m).startKind = s.startKind := by
  simp only [State.queueLamp]; (repeat' split) <;> simp
@[simp] theorem State.queueLamp_pending (s : State) (b : Bay) (m : Bool) : (s.queueLamp b m).pending = s.pending := by
  simp only [State.queueLamp]; (repeat' split) <;> simp

/-! ## Lamps and lock -/

@[simp] theorem State.recomputeGo_clock (s : State) (b : Bay) : (s.recomputeGo b).clock = s.clock := by
  simp only [State.recomputeGo]; (repeat' split) <;> simp
@[simp] theorem State.recomputeGo_drivers (s : State) (b : Bay) : (s.recomputeGo b).drivers = s.drivers := by
  simp only [State.recomputeGo]; (repeat' split) <;> simp
@[simp] theorem State.recomputeGo_tankers (s : State) (b : Bay) : (s.recomputeGo b).tankers = s.tankers := by
  simp only [State.recomputeGo]; (repeat' split) <;> simp
@[simp] theorem State.recomputeGo_consignments (s : State) (b : Bay) : (s.recomputeGo b).consignments = s.consignments := by
  simp only [State.recomputeGo]; (repeat' split) <;> simp
@[simp] theorem State.recomputeGo_refCounts (s : State) (b : Bay) : (s.recomputeGo b).refCounts = s.refCounts := by
  simp only [State.recomputeGo]; (repeat' split) <;> simp
@[simp] theorem State.recomputeGo_store (s : State) (b : Bay) : (s.recomputeGo b).store = s.store := by
  simp only [State.recomputeGo]; (repeat' split) <;> simp
@[simp] theorem State.recomputeGo_engine (s : State) (b : Bay) : (s.recomputeGo b).engine = s.engine := by
  simp only [State.recomputeGo]; (repeat' split) <;> simp
@[simp] theorem State.recomputeGo_filling (s : State) (b : Bay) : (s.recomputeGo b).filling = s.filling := by
  simp only [State.recomputeGo]; (repeat' split) <;> simp
@[simp] theorem State.recomputeGo_port (s : State) (b : Bay) : (s.recomputeGo b).port = s.port := by
  simp only [State.recomputeGo]; (repeat' split) <;> simp
@[simp] theorem State.recomputeGo_startKind (s : State) (b : Bay) : (s.recomputeGo b).startKind = s.startKind := by
  simp only [State.recomputeGo]; (repeat' split) <;> simp
@[simp] theorem State.recomputeGo_pending (s : State) (b : Bay) : (s.recomputeGo b).pending = s.pending := by
  simp only [State.recomputeGo]; (repeat' split) <;> simp

@[simp] theorem State.recomputeGoOf_clock (s : State) (n : Nat) : (s.recomputeGoOf n).clock = s.clock := by
  simp only [State.recomputeGoOf]; (repeat' split) <;> simp
@[simp] theorem State.recomputeGoOf_drivers (s : State) (n : Nat) : (s.recomputeGoOf n).drivers = s.drivers := by
  simp only [State.recomputeGoOf]; (repeat' split) <;> simp
@[simp] theorem State.recomputeGoOf_tankers (s : State) (n : Nat) : (s.recomputeGoOf n).tankers = s.tankers := by
  simp only [State.recomputeGoOf]; (repeat' split) <;> simp
@[simp] theorem State.recomputeGoOf_consignments (s : State) (n : Nat) : (s.recomputeGoOf n).consignments = s.consignments := by
  simp only [State.recomputeGoOf]; (repeat' split) <;> simp
@[simp] theorem State.recomputeGoOf_refCounts (s : State) (n : Nat) : (s.recomputeGoOf n).refCounts = s.refCounts := by
  simp only [State.recomputeGoOf]; (repeat' split) <;> simp
@[simp] theorem State.recomputeGoOf_store (s : State) (n : Nat) : (s.recomputeGoOf n).store = s.store := by
  simp only [State.recomputeGoOf]; (repeat' split) <;> simp
@[simp] theorem State.recomputeGoOf_engine (s : State) (n : Nat) : (s.recomputeGoOf n).engine = s.engine := by
  simp only [State.recomputeGoOf]; (repeat' split) <;> simp
@[simp] theorem State.recomputeGoOf_filling (s : State) (n : Nat) : (s.recomputeGoOf n).filling = s.filling := by
  simp only [State.recomputeGoOf]; (repeat' split) <;> simp
@[simp] theorem State.recomputeGoOf_port (s : State) (n : Nat) : (s.recomputeGoOf n).port = s.port := by
  simp only [State.recomputeGoOf]; (repeat' split) <;> simp
@[simp] theorem State.recomputeGoOf_startKind (s : State) (n : Nat) : (s.recomputeGoOf n).startKind = s.startKind := by
  simp only [State.recomputeGoOf]; (repeat' split) <;> simp
@[simp] theorem State.recomputeGoOf_pending (s : State) (n : Nat) : (s.recomputeGoOf n).pending = s.pending := by
  simp only [State.recomputeGoOf]; (repeat' split) <;> simp

@[simp] theorem State.testLock_clock (s : State) (b : Bay) : (s.testLock b).clock = s.clock := by
  simp only [State.testLock]; (repeat' split) <;> simp
@[simp] theorem State.testLock_drivers (s : State) (b : Bay) : (s.testLock b).drivers = s.drivers := by
  simp only [State.testLock]; (repeat' split) <;> simp
@[simp] theorem State.testLock_tankers (s : State) (b : Bay) : (s.testLock b).tankers = s.tankers := by
  simp only [State.testLock]; (repeat' split) <;> simp
@[simp] theorem State.testLock_consignments (s : State) (b : Bay) : (s.testLock b).consignments = s.consignments := by
  simp only [State.testLock]; (repeat' split) <;> simp
@[simp] theorem State.testLock_refCounts (s : State) (b : Bay) : (s.testLock b).refCounts = s.refCounts := by
  simp only [State.testLock]; (repeat' split) <;> simp
@[simp] theorem State.testLock_store (s : State) (b : Bay) : (s.testLock b).store = s.store := by
  simp only [State.testLock]; (repeat' split) <;> simp
@[simp] theorem State.testLock_engine (s : State) (b : Bay) : (s.testLock b).engine = s.engine := by
  simp only [State.testLock]; (repeat' split) <;> simp
@[simp] theorem State.testLock_filling (s : State) (b : Bay) : (s.testLock b).filling = s.filling := by
  simp only [State.testLock]; (repeat' split) <;> simp
@[simp] theorem State.testLock_slots (s : State) (b : Bay) : (s.testLock b).slots = s.slots := by
  simp only [State.testLock]; (repeat' split) <;> simp
@[simp] theorem State.testLock_port (s : State) (b : Bay) : (s.testLock b).port = s.port := by
  simp only [State.testLock]; (repeat' split) <;> simp
@[simp] theorem State.testLock_startKind (s : State) (b : Bay) : (s.testLock b).startKind = s.startKind := by
  simp only [State.testLock]; (repeat' split) <;> simp
@[simp] theorem State.testLock_pending (s : State) (b : Bay) : (s.testLock b).pending = s.pending := by
  simp only [State.testLock]; (repeat' split) <;> simp

@[simp] theorem State.recomputeLock_clock (s : State) (b : Bay) : (s.recomputeLock b).clock = s.clock := by
  simp only [State.recomputeLock]; (repeat' split) <;> simp
@[simp] theorem State.recomputeLock_drivers (s : State) (b : Bay) : (s.recomputeLock b).drivers = s.drivers := by
  simp only [State.recomputeLock]; (repeat' split) <;> simp
@[simp] theorem State.recomputeLock_tankers (s : State) (b : Bay) : (s.recomputeLock b).tankers = s.tankers := by
  simp only [State.recomputeLock]; (repeat' split) <;> simp
@[simp] theorem State.recomputeLock_consignments (s : State) (b : Bay) : (s.recomputeLock b).consignments = s.consignments := by
  simp only [State.recomputeLock]; (repeat' split) <;> simp
@[simp] theorem State.recomputeLock_refCounts (s : State) (b : Bay) : (s.recomputeLock b).refCounts = s.refCounts := by
  simp only [State.recomputeLock]; (repeat' split) <;> simp
@[simp] theorem State.recomputeLock_store (s : State) (b : Bay) : (s.recomputeLock b).store = s.store := by
  simp only [State.recomputeLock]; (repeat' split) <;> simp
@[simp] theorem State.recomputeLock_engine (s : State) (b : Bay) : (s.recomputeLock b).engine = s.engine := by
  simp only [State.recomputeLock]; (repeat' split) <;> simp
@[simp] theorem State.recomputeLock_filling (s : State) (b : Bay) : (s.recomputeLock b).filling = s.filling := by
  simp only [State.recomputeLock]; (repeat' split) <;> simp
@[simp] theorem State.recomputeLock_port (s : State) (b : Bay) : (s.recomputeLock b).port = s.port := by
  simp only [State.recomputeLock]; (repeat' split) <;> simp
@[simp] theorem State.recomputeLock_startKind (s : State) (b : Bay) : (s.recomputeLock b).startKind = s.startKind := by
  simp only [State.recomputeLock]; (repeat' split) <;> simp
@[simp] theorem State.recomputeLock_pending (s : State) (b : Bay) : (s.recomputeLock b).pending = s.pending := by
  simp only [State.recomputeLock]; (repeat' split) <;> simp

@[simp] theorem State.refuse_clock (s : State) (b : Bay) (c : Nat) (r : Reason) : (s.refuse b c r).clock = s.clock := by
  simp only [State.refuse]; (repeat' split) <;> simp
@[simp] theorem State.refuse_drivers (s : State) (b : Bay) (c : Nat) (r : Reason) : (s.refuse b c r).drivers = s.drivers := by
  simp only [State.refuse]; (repeat' split) <;> simp
@[simp] theorem State.refuse_tankers (s : State) (b : Bay) (c : Nat) (r : Reason) : (s.refuse b c r).tankers = s.tankers := by
  simp only [State.refuse]; (repeat' split) <;> simp
@[simp] theorem State.refuse_consignments (s : State) (b : Bay) (c : Nat) (r : Reason) : (s.refuse b c r).consignments = s.consignments := by
  simp only [State.refuse]; (repeat' split) <;> simp
@[simp] theorem State.refuse_refCounts (s : State) (b : Bay) (c : Nat) (r : Reason) : (s.refuse b c r).refCounts = s.refCounts := by
  simp only [State.refuse]; (repeat' split) <;> simp
@[simp] theorem State.refuse_store (s : State) (b : Bay) (c : Nat) (r : Reason) : (s.refuse b c r).store = s.store := by
  simp only [State.refuse]; (repeat' split) <;> simp
@[simp] theorem State.refuse_engine (s : State) (b : Bay) (c : Nat) (r : Reason) : (s.refuse b c r).engine = s.engine := by
  simp only [State.refuse]; (repeat' split) <;> simp
@[simp] theorem State.refuse_filling (s : State) (b : Bay) (c : Nat) (r : Reason) : (s.refuse b c r).filling = s.filling := by
  simp only [State.refuse]; (repeat' split) <;> simp
@[simp] theorem State.refuse_port (s : State) (b : Bay) (c : Nat) (r : Reason) : (s.refuse b c r).port = s.port := by
  simp only [State.refuse]; (repeat' split) <;> simp
@[simp] theorem State.refuse_startKind (s : State) (b : Bay) (c : Nat) (r : Reason) : (s.refuse b c r).startKind = s.startKind := by
  simp only [State.refuse]; (repeat' split) <;> simp
@[simp] theorem State.refuse_pending (s : State) (b : Bay) (c : Nat) (r : Reason) : (s.refuse b c r).pending = s.pending := by
  simp only [State.refuse]; (repeat' split) <;> simp

/-! ## Permits -/

@[simp] theorem State.completeTest_clock (s : State) (n : Nat) : (s.completeTest n).clock = s.clock := by
  simp only [State.completeTest]; (repeat' split) <;> simp
@[simp] theorem State.completeTest_drivers (s : State) (n : Nat) : (s.completeTest n).drivers = s.drivers := by
  simp only [State.completeTest]; (repeat' split) <;> simp
@[simp] theorem State.completeTest_tankers (s : State) (n : Nat) : (s.completeTest n).tankers = s.tankers := by
  simp only [State.completeTest]; (repeat' split) <;> simp
@[simp] theorem State.completeTest_refCounts (s : State) (n : Nat) : (s.completeTest n).refCounts = s.refCounts := by
  simp only [State.completeTest]; (repeat' split) <;> simp
@[simp] theorem State.completeTest_store (s : State) (n : Nat) : (s.completeTest n).store = s.store := by
  simp only [State.completeTest]; (repeat' split) <;> simp
@[simp] theorem State.completeTest_engine (s : State) (n : Nat) : (s.completeTest n).engine = s.engine := by
  simp only [State.completeTest]; (repeat' split) <;> simp
@[simp] theorem State.completeTest_filling (s : State) (n : Nat) : (s.completeTest n).filling = s.filling := by
  simp only [State.completeTest]; (repeat' split) <;> simp
@[simp] theorem State.completeTest_port (s : State) (n : Nat) : (s.completeTest n).port = s.port := by
  simp only [State.completeTest]; (repeat' split) <;> simp
@[simp] theorem State.completeTest_startKind (s : State) (n : Nat) : (s.completeTest n).startKind = s.startKind := by
  simp only [State.completeTest]; (repeat' split) <;> simp
@[simp] theorem State.completeTest_pending (s : State) (n : Nat) : (s.completeTest n).pending = s.pending := by
  simp only [State.completeTest]; (repeat' split) <;> simp

@[simp] theorem State.endPermit_clock (s : State) (b : Bay) (dest : SlotState) (close : Option Nat) : (s.endPermit b dest close).clock = s.clock := by
  simp only [State.endPermit]; (repeat' split) <;> simp
@[simp] theorem State.endPermit_drivers (s : State) (b : Bay) (dest : SlotState) (close : Option Nat) : (s.endPermit b dest close).drivers = s.drivers := by
  simp only [State.endPermit]; (repeat' split) <;> simp
@[simp] theorem State.endPermit_tankers (s : State) (b : Bay) (dest : SlotState) (close : Option Nat) : (s.endPermit b dest close).tankers = s.tankers := by
  simp only [State.endPermit]; (repeat' split) <;> simp
@[simp] theorem State.endPermit_consignments (s : State) (b : Bay) (dest : SlotState) (close : Option Nat) : (s.endPermit b dest close).consignments = s.consignments := by
  simp only [State.endPermit]; (repeat' split) <;> simp
@[simp] theorem State.endPermit_refCounts (s : State) (b : Bay) (dest : SlotState) (close : Option Nat) : (s.endPermit b dest close).refCounts = s.refCounts := by
  simp only [State.endPermit]; (repeat' split) <;> simp
@[simp] theorem State.endPermit_store (s : State) (b : Bay) (dest : SlotState) (close : Option Nat) : (s.endPermit b dest close).store = s.store := by
  simp only [State.endPermit]; (repeat' split) <;> simp
@[simp] theorem State.endPermit_engine (s : State) (b : Bay) (dest : SlotState) (close : Option Nat) : (s.endPermit b dest close).engine = s.engine := by
  simp only [State.endPermit]; (repeat' split) <;> simp
@[simp] theorem State.endPermit_port (s : State) (b : Bay) (dest : SlotState) (close : Option Nat) : (s.endPermit b dest close).port = s.port := by
  simp only [State.endPermit]; (repeat' split) <;> simp
@[simp] theorem State.endPermit_startKind (s : State) (b : Bay) (dest : SlotState) (close : Option Nat) : (s.endPermit b dest close).startKind = s.startKind := by
  simp only [State.endPermit]; (repeat' split) <;> simp
@[simp] theorem State.endPermit_pending (s : State) (b : Bay) (dest : SlotState) (close : Option Nat) : (s.endPermit b dest close).pending = s.pending := by
  simp only [State.endPermit]; (repeat' split) <;> simp

@[simp] theorem State.stall_clock (s : State) (b : Bay) (cause : Cause) (dest : SlotState) : (s.stall b cause dest).clock = s.clock := by
  simp only [State.stall]; (repeat' split) <;> simp
@[simp] theorem State.stall_drivers (s : State) (b : Bay) (cause : Cause) (dest : SlotState) : (s.stall b cause dest).drivers = s.drivers := by
  simp only [State.stall]; (repeat' split) <;> simp
@[simp] theorem State.stall_tankers (s : State) (b : Bay) (cause : Cause) (dest : SlotState) : (s.stall b cause dest).tankers = s.tankers := by
  simp only [State.stall]; (repeat' split) <;> simp
@[simp] theorem State.stall_refCounts (s : State) (b : Bay) (cause : Cause) (dest : SlotState) : (s.stall b cause dest).refCounts = s.refCounts := by
  simp only [State.stall]; (repeat' split) <;> simp
@[simp] theorem State.stall_store (s : State) (b : Bay) (cause : Cause) (dest : SlotState) : (s.stall b cause dest).store = s.store := by
  simp only [State.stall]; (repeat' split) <;> simp
@[simp] theorem State.stall_engine (s : State) (b : Bay) (cause : Cause) (dest : SlotState) : (s.stall b cause dest).engine = s.engine := by
  simp only [State.stall]; (repeat' split) <;> simp
@[simp] theorem State.stall_port (s : State) (b : Bay) (cause : Cause) (dest : SlotState) : (s.stall b cause dest).port = s.port := by
  simp only [State.stall]; (repeat' split) <;> simp
@[simp] theorem State.stall_startKind (s : State) (b : Bay) (cause : Cause) (dest : SlotState) : (s.stall b cause dest).startKind = s.startKind := by
  simp only [State.stall]; (repeat' split) <;> simp
@[simp] theorem State.stall_pending (s : State) (b : Bay) (cause : Cause) (dest : SlotState) : (s.stall b cause dest).pending = s.pending := by
  simp only [State.stall]; (repeat' split) <;> simp

/-! ## Evaluations -/

@[simp] theorem State.beginEvaluation_clock (s : State) : (s.beginEvaluation).clock = s.clock := by
  simp only [State.beginEvaluation]; (repeat' split) <;> simp
@[simp] theorem State.beginEvaluation_drivers (s : State) : (s.beginEvaluation).drivers = s.drivers := by
  simp only [State.beginEvaluation]; (repeat' split) <;> simp
@[simp] theorem State.beginEvaluation_tankers (s : State) : (s.beginEvaluation).tankers = s.tankers := by
  simp only [State.beginEvaluation]; (repeat' split) <;> simp
@[simp] theorem State.beginEvaluation_consignments (s : State) : (s.beginEvaluation).consignments = s.consignments := by
  simp only [State.beginEvaluation]; (repeat' split) <;> simp
@[simp] theorem State.beginEvaluation_refCounts (s : State) : (s.beginEvaluation).refCounts = s.refCounts := by
  simp only [State.beginEvaluation]; (repeat' split) <;> simp
@[simp] theorem State.beginEvaluation_store (s : State) : (s.beginEvaluation).store = s.store := by
  simp only [State.beginEvaluation]; (repeat' split) <;> simp
@[simp] theorem State.beginEvaluation_filling (s : State) : (s.beginEvaluation).filling = s.filling := by
  simp only [State.beginEvaluation]; (repeat' split) <;> simp
@[simp] theorem State.beginEvaluation_slots (s : State) : (s.beginEvaluation).slots = s.slots := by
  simp only [State.beginEvaluation]; (repeat' split) <;> simp
@[simp] theorem State.beginEvaluation_bus (s : State) : (s.beginEvaluation).bus = s.bus := by
  simp only [State.beginEvaluation]; (repeat' split) <;> simp
@[simp] theorem State.beginEvaluation_port (s : State) : (s.beginEvaluation).port = s.port := by
  simp only [State.beginEvaluation]; (repeat' split) <;> simp
@[simp] theorem State.beginEvaluation_attention (s : State) : (s.beginEvaluation).attention = s.attention := by
  simp only [State.beginEvaluation]; (repeat' split) <;> simp
@[simp] theorem State.beginEvaluation_startKind (s : State) : (s.beginEvaluation).startKind = s.startKind := by
  simp only [State.beginEvaluation]; (repeat' split) <;> simp
@[simp] theorem State.beginEvaluation_pending (s : State) : (s.beginEvaluation).pending = s.pending := by
  simp only [State.beginEvaluation]; (repeat' split) <;> simp

@[simp] theorem State.dropEntry_clock (s : State) (b : Bay) : (s.dropEntry b).clock = s.clock := by
  simp only [State.dropEntry]; simp
@[simp] theorem State.dropEntry_drivers (s : State) (b : Bay) : (s.dropEntry b).drivers = s.drivers := by
  simp only [State.dropEntry]; simp
@[simp] theorem State.dropEntry_tankers (s : State) (b : Bay) : (s.dropEntry b).tankers = s.tankers := by
  simp only [State.dropEntry]; simp
@[simp] theorem State.dropEntry_consignments (s : State) (b : Bay) : (s.dropEntry b).consignments = s.consignments := by
  simp only [State.dropEntry]; simp
@[simp] theorem State.dropEntry_refCounts (s : State) (b : Bay) : (s.dropEntry b).refCounts = s.refCounts := by
  simp only [State.dropEntry]; simp
@[simp] theorem State.dropEntry_store (s : State) (b : Bay) : (s.dropEntry b).store = s.store := by
  simp only [State.dropEntry]; simp
@[simp] theorem State.dropEntry_filling (s : State) (b : Bay) : (s.dropEntry b).filling = s.filling := by
  simp only [State.dropEntry]; simp
@[simp] theorem State.dropEntry_slots (s : State) (b : Bay) : (s.dropEntry b).slots = s.slots := by
  simp only [State.dropEntry]; simp
@[simp] theorem State.dropEntry_bus (s : State) (b : Bay) : (s.dropEntry b).bus = s.bus := by
  simp only [State.dropEntry]; simp
@[simp] theorem State.dropEntry_port (s : State) (b : Bay) : (s.dropEntry b).port = s.port := by
  simp only [State.dropEntry]; simp
@[simp] theorem State.dropEntry_attention (s : State) (b : Bay) : (s.dropEntry b).attention = s.attention := by
  simp only [State.dropEntry]; simp
@[simp] theorem State.dropEntry_startKind (s : State) (b : Bay) : (s.dropEntry b).startKind = s.startKind := by
  simp only [State.dropEntry]; simp
@[simp] theorem State.dropEntry_pending (s : State) (b : Bay) : (s.dropEntry b).pending = s.pending := by
  simp only [State.dropEntry]; simp

@[simp] theorem State.endEvaluation_clock (s : State) : (s.endEvaluation).clock = s.clock := by
  simp only [State.endEvaluation]; simp
@[simp] theorem State.endEvaluation_drivers (s : State) : (s.endEvaluation).drivers = s.drivers := by
  simp only [State.endEvaluation]; simp
@[simp] theorem State.endEvaluation_tankers (s : State) : (s.endEvaluation).tankers = s.tankers := by
  simp only [State.endEvaluation]; simp
@[simp] theorem State.endEvaluation_consignments (s : State) : (s.endEvaluation).consignments = s.consignments := by
  simp only [State.endEvaluation]; simp
@[simp] theorem State.endEvaluation_refCounts (s : State) : (s.endEvaluation).refCounts = s.refCounts := by
  simp only [State.endEvaluation]; simp
@[simp] theorem State.endEvaluation_store (s : State) : (s.endEvaluation).store = s.store := by
  simp only [State.endEvaluation]; simp
@[simp] theorem State.endEvaluation_filling (s : State) : (s.endEvaluation).filling = s.filling := by
  simp only [State.endEvaluation]; simp
@[simp] theorem State.endEvaluation_slots (s : State) : (s.endEvaluation).slots = s.slots := by
  simp only [State.endEvaluation]; simp
@[simp] theorem State.endEvaluation_bus (s : State) : (s.endEvaluation).bus = s.bus := by
  simp only [State.endEvaluation]; simp
@[simp] theorem State.endEvaluation_port (s : State) : (s.endEvaluation).port = s.port := by
  simp only [State.endEvaluation]; simp
@[simp] theorem State.endEvaluation_attention (s : State) : (s.endEvaluation).attention = s.attention := by
  simp only [State.endEvaluation]; simp
@[simp] theorem State.endEvaluation_startKind (s : State) : (s.endEvaluation).startKind = s.startKind := by
  simp only [State.endEvaluation]; simp
@[simp] theorem State.endEvaluation_pending (s : State) : (s.endEvaluation).pending = s.pending := by
  simp only [State.endEvaluation]; simp

/-! ## Offline -/

@[simp] theorem State.clearBus_clock (s : State) (b : Bay) : (s.clearBus b).clock = s.clock := by
  simp only [State.clearBus]; simp
@[simp] theorem State.clearBus_drivers (s : State) (b : Bay) : (s.clearBus b).drivers = s.drivers := by
  simp only [State.clearBus]; simp
@[simp] theorem State.clearBus_tankers (s : State) (b : Bay) : (s.clearBus b).tankers = s.tankers := by
  simp only [State.clearBus]; simp
@[simp] theorem State.clearBus_consignments (s : State) (b : Bay) : (s.clearBus b).consignments = s.consignments := by
  simp only [State.clearBus]; simp
@[simp] theorem State.clearBus_refCounts (s : State) (b : Bay) : (s.clearBus b).refCounts = s.refCounts := by
  simp only [State.clearBus]; simp
@[simp] theorem State.clearBus_store (s : State) (b : Bay) : (s.clearBus b).store = s.store := by
  simp only [State.clearBus]; simp
@[simp] theorem State.clearBus_engine (s : State) (b : Bay) : (s.clearBus b).engine = s.engine := by
  simp only [State.clearBus]; simp
@[simp] theorem State.clearBus_filling (s : State) (b : Bay) : (s.clearBus b).filling = s.filling := by
  simp only [State.clearBus]; simp
@[simp] theorem State.clearBus_slots (s : State) (b : Bay) : (s.clearBus b).slots = s.slots := by
  simp only [State.clearBus]; simp
@[simp] theorem State.clearBus_port (s : State) (b : Bay) : (s.clearBus b).port = s.port := by
  simp only [State.clearBus]; simp
@[simp] theorem State.clearBus_attention (s : State) (b : Bay) : (s.clearBus b).attention = s.attention := by
  simp only [State.clearBus]; simp
@[simp] theorem State.clearBus_startKind (s : State) (b : Bay) : (s.clearBus b).startKind = s.startKind := by
  simp only [State.clearBus]; simp
@[simp] theorem State.clearBus_pending (s : State) (b : Bay) : (s.clearBus b).pending = s.pending := by
  simp only [State.clearBus]; simp

@[simp] theorem State.clearPosition_clock (s : State) (b : Bay) : (s.clearPosition b).clock = s.clock := by
  simp only [State.clearPosition]; (repeat' split) <;> simp
@[simp] theorem State.clearPosition_drivers (s : State) (b : Bay) : (s.clearPosition b).drivers = s.drivers := by
  simp only [State.clearPosition]; (repeat' split) <;> simp
@[simp] theorem State.clearPosition_consignments (s : State) (b : Bay) : (s.clearPosition b).consignments = s.consignments := by
  simp only [State.clearPosition]; (repeat' split) <;> simp
@[simp] theorem State.clearPosition_refCounts (s : State) (b : Bay) : (s.clearPosition b).refCounts = s.refCounts := by
  simp only [State.clearPosition]; (repeat' split) <;> simp
@[simp] theorem State.clearPosition_store (s : State) (b : Bay) : (s.clearPosition b).store = s.store := by
  simp only [State.clearPosition]; (repeat' split) <;> simp
@[simp] theorem State.clearPosition_engine (s : State) (b : Bay) : (s.clearPosition b).engine = s.engine := by
  simp only [State.clearPosition]; (repeat' split) <;> simp
@[simp] theorem State.clearPosition_filling (s : State) (b : Bay) : (s.clearPosition b).filling = s.filling := by
  simp only [State.clearPosition]; (repeat' split) <;> simp
@[simp] theorem State.clearPosition_slots (s : State) (b : Bay) : (s.clearPosition b).slots = s.slots := by
  simp only [State.clearPosition]; (repeat' split) <;> simp
@[simp] theorem State.clearPosition_bus (s : State) (b : Bay) : (s.clearPosition b).bus = s.bus := by
  simp only [State.clearPosition]; (repeat' split) <;> simp
@[simp] theorem State.clearPosition_port (s : State) (b : Bay) : (s.clearPosition b).port = s.port := by
  simp only [State.clearPosition]; (repeat' split) <;> simp
@[simp] theorem State.clearPosition_attention (s : State) (b : Bay) : (s.clearPosition b).attention = s.attention := by
  simp only [State.clearPosition]; (repeat' split) <;> simp
@[simp] theorem State.clearPosition_startKind (s : State) (b : Bay) : (s.clearPosition b).startKind = s.startKind := by
  simp only [State.clearPosition]; (repeat' split) <;> simp
@[simp] theorem State.clearPosition_pending (s : State) (b : Bay) : (s.clearPosition b).pending = s.pending := by
  simp only [State.clearPosition]; (repeat' split) <;> simp

@[simp] theorem State.goOffline_clock (s : State) (b : Bay) (cause : Cause) : (s.goOffline b cause).clock = s.clock := by
  simp only [State.goOffline]; (repeat' split) <;> simp
@[simp] theorem State.goOffline_drivers (s : State) (b : Bay) (cause : Cause) : (s.goOffline b cause).drivers = s.drivers := by
  simp only [State.goOffline]; (repeat' split) <;> simp
@[simp] theorem State.goOffline_refCounts (s : State) (b : Bay) (cause : Cause) : (s.goOffline b cause).refCounts = s.refCounts := by
  simp only [State.goOffline]; (repeat' split) <;> simp
@[simp] theorem State.goOffline_store (s : State) (b : Bay) (cause : Cause) : (s.goOffline b cause).store = s.store := by
  simp only [State.goOffline]; (repeat' split) <;> simp
@[simp] theorem State.goOffline_port (s : State) (b : Bay) (cause : Cause) : (s.goOffline b cause).port = s.port := by
  simp only [State.goOffline]; (repeat' split) <;> simp
@[simp] theorem State.goOffline_startKind (s : State) (b : Bay) (cause : Cause) : (s.goOffline b cause).startKind = s.startKind := by
  simp only [State.goOffline]; (repeat' split) <;> simp
@[simp] theorem State.goOffline_pending (s : State) (b : Bay) (cause : Cause) : (s.goOffline b cause).pending = s.pending := by
  simp only [State.goOffline]; (repeat' split) <;> simp

/-! ## Pick -/

@[simp] theorem State.issueGrant_clock (s : State) (b : Bay) (cls : RequestClass) : (s.issueGrant b cls).clock = s.clock := by
  simp only [State.issueGrant]; simp
@[simp] theorem State.issueGrant_drivers (s : State) (b : Bay) (cls : RequestClass) : (s.issueGrant b cls).drivers = s.drivers := by
  simp only [State.issueGrant]; simp
@[simp] theorem State.issueGrant_tankers (s : State) (b : Bay) (cls : RequestClass) : (s.issueGrant b cls).tankers = s.tankers := by
  simp only [State.issueGrant]; simp
@[simp] theorem State.issueGrant_consignments (s : State) (b : Bay) (cls : RequestClass) : (s.issueGrant b cls).consignments = s.consignments := by
  simp only [State.issueGrant]; simp
@[simp] theorem State.issueGrant_refCounts (s : State) (b : Bay) (cls : RequestClass) : (s.issueGrant b cls).refCounts = s.refCounts := by
  simp only [State.issueGrant]; simp
@[simp] theorem State.issueGrant_store (s : State) (b : Bay) (cls : RequestClass) : (s.issueGrant b cls).store = s.store := by
  simp only [State.issueGrant]; simp
@[simp] theorem State.issueGrant_engine (s : State) (b : Bay) (cls : RequestClass) : (s.issueGrant b cls).engine = s.engine := by
  simp only [State.issueGrant]; simp
@[simp] theorem State.issueGrant_filling (s : State) (b : Bay) (cls : RequestClass) : (s.issueGrant b cls).filling = s.filling := by
  simp only [State.issueGrant]; simp
@[simp] theorem State.issueGrant_slots (s : State) (b : Bay) (cls : RequestClass) : (s.issueGrant b cls).slots = s.slots := by
  simp only [State.issueGrant]; simp
@[simp] theorem State.issueGrant_port (s : State) (b : Bay) (cls : RequestClass) : (s.issueGrant b cls).port = s.port := by
  simp only [State.issueGrant]; simp
@[simp] theorem State.issueGrant_attention (s : State) (b : Bay) (cls : RequestClass) : (s.issueGrant b cls).attention = s.attention := by
  simp only [State.issueGrant]; simp
@[simp] theorem State.issueGrant_startKind (s : State) (b : Bay) (cls : RequestClass) : (s.issueGrant b cls).startKind = s.startKind := by
  simp only [State.issueGrant]; simp
@[simp] theorem State.issueGrant_pending (s : State) (b : Bay) (cls : RequestClass) : (s.issueGrant b cls).pending = s.pending := by
  simp only [State.issueGrant]; simp

@[simp] theorem State.beginTransmission_clock (s : State) (w : Waiting) : (s.beginTransmission w).clock = s.clock := by
  simp only [State.beginTransmission]; (repeat' split) <;> simp
@[simp] theorem State.beginTransmission_drivers (s : State) (w : Waiting) : (s.beginTransmission w).drivers = s.drivers := by
  simp only [State.beginTransmission]; (repeat' split) <;> simp
@[simp] theorem State.beginTransmission_tankers (s : State) (w : Waiting) : (s.beginTransmission w).tankers = s.tankers := by
  simp only [State.beginTransmission]; (repeat' split) <;> simp
@[simp] theorem State.beginTransmission_consignments (s : State) (w : Waiting) : (s.beginTransmission w).consignments = s.consignments := by
  simp only [State.beginTransmission]; (repeat' split) <;> simp
@[simp] theorem State.beginTransmission_refCounts (s : State) (w : Waiting) : (s.beginTransmission w).refCounts = s.refCounts := by
  simp only [State.beginTransmission]; (repeat' split) <;> simp
@[simp] theorem State.beginTransmission_store (s : State) (w : Waiting) : (s.beginTransmission w).store = s.store := by
  simp only [State.beginTransmission]; (repeat' split) <;> simp
@[simp] theorem State.beginTransmission_engine (s : State) (w : Waiting) : (s.beginTransmission w).engine = s.engine := by
  simp only [State.beginTransmission]; (repeat' split) <;> simp
@[simp] theorem State.beginTransmission_filling (s : State) (w : Waiting) : (s.beginTransmission w).filling = s.filling := by
  simp only [State.beginTransmission]; (repeat' split) <;> simp
@[simp] theorem State.beginTransmission_slots (s : State) (w : Waiting) : (s.beginTransmission w).slots = s.slots := by
  simp only [State.beginTransmission]; (repeat' split) <;> simp
@[simp] theorem State.beginTransmission_port (s : State) (w : Waiting) : (s.beginTransmission w).port = s.port := by
  simp only [State.beginTransmission]; (repeat' split) <;> simp
@[simp] theorem State.beginTransmission_attention (s : State) (w : Waiting) : (s.beginTransmission w).attention = s.attention := by
  simp only [State.beginTransmission]; (repeat' split) <;> simp
@[simp] theorem State.beginTransmission_startKind (s : State) (w : Waiting) : (s.beginTransmission w).startKind = s.startKind := by
  simp only [State.beginTransmission]; (repeat' split) <;> simp
@[simp] theorem State.beginTransmission_pending (s : State) (w : Waiting) : (s.beginTransmission w).pending = s.pending := by
  simp only [State.beginTransmission]; (repeat' split) <;> simp

@[simp] theorem State.pickRoutine_clock (s : State) : (s.pickRoutine).clock = s.clock := by
  simp only [State.pickRoutine]; (repeat' split) <;> simp
@[simp] theorem State.pickRoutine_drivers (s : State) : (s.pickRoutine).drivers = s.drivers := by
  simp only [State.pickRoutine]; (repeat' split) <;> simp
@[simp] theorem State.pickRoutine_tankers (s : State) : (s.pickRoutine).tankers = s.tankers := by
  simp only [State.pickRoutine]; (repeat' split) <;> simp
@[simp] theorem State.pickRoutine_consignments (s : State) : (s.pickRoutine).consignments = s.consignments := by
  simp only [State.pickRoutine]; (repeat' split) <;> simp
@[simp] theorem State.pickRoutine_refCounts (s : State) : (s.pickRoutine).refCounts = s.refCounts := by
  simp only [State.pickRoutine]; (repeat' split) <;> simp
@[simp] theorem State.pickRoutine_store (s : State) : (s.pickRoutine).store = s.store := by
  simp only [State.pickRoutine]; (repeat' split) <;> simp
@[simp] theorem State.pickRoutine_engine (s : State) : (s.pickRoutine).engine = s.engine := by
  simp only [State.pickRoutine]; (repeat' split) <;> simp
@[simp] theorem State.pickRoutine_filling (s : State) : (s.pickRoutine).filling = s.filling := by
  simp only [State.pickRoutine]; (repeat' split) <;> simp
@[simp] theorem State.pickRoutine_slots (s : State) : (s.pickRoutine).slots = s.slots := by
  simp only [State.pickRoutine]; (repeat' split) <;> simp
@[simp] theorem State.pickRoutine_port (s : State) : (s.pickRoutine).port = s.port := by
  simp only [State.pickRoutine]; (repeat' split) <;> simp
@[simp] theorem State.pickRoutine_attention (s : State) : (s.pickRoutine).attention = s.attention := by
  simp only [State.pickRoutine]; (repeat' split) <;> simp
@[simp] theorem State.pickRoutine_startKind (s : State) : (s.pickRoutine).startKind = s.startKind := by
  simp only [State.pickRoutine]; (repeat' split) <;> simp
@[simp] theorem State.pickRoutine_pending (s : State) : (s.pickRoutine).pending = s.pending := by
  simp only [State.pickRoutine]; (repeat' split) <;> simp

@[simp] theorem State.pick_clock (s : State) : (s.pick).clock = s.clock := by
  simp only [State.pick]; (repeat' split) <;> simp
@[simp] theorem State.pick_drivers (s : State) : (s.pick).drivers = s.drivers := by
  simp only [State.pick]; (repeat' split) <;> simp
@[simp] theorem State.pick_tankers (s : State) : (s.pick).tankers = s.tankers := by
  simp only [State.pick]; (repeat' split) <;> simp
@[simp] theorem State.pick_consignments (s : State) : (s.pick).consignments = s.consignments := by
  simp only [State.pick]; (repeat' split) <;> simp
@[simp] theorem State.pick_refCounts (s : State) : (s.pick).refCounts = s.refCounts := by
  simp only [State.pick]; (repeat' split) <;> simp
@[simp] theorem State.pick_store (s : State) : (s.pick).store = s.store := by
  simp only [State.pick]; (repeat' split) <;> simp
@[simp] theorem State.pick_engine (s : State) : (s.pick).engine = s.engine := by
  simp only [State.pick]; (repeat' split) <;> simp
@[simp] theorem State.pick_filling (s : State) : (s.pick).filling = s.filling := by
  simp only [State.pick]; (repeat' split) <;> simp
@[simp] theorem State.pick_slots (s : State) : (s.pick).slots = s.slots := by
  simp only [State.pick]; (repeat' split) <;> simp
@[simp] theorem State.pick_port (s : State) : (s.pick).port = s.port := by
  simp only [State.pick]; (repeat' split) <;> simp
@[simp] theorem State.pick_attention (s : State) : (s.pick).attention = s.attention := by
  simp only [State.pick]; (repeat' split) <;> simp
@[simp] theorem State.pick_startKind (s : State) : (s.pick).startKind = s.startKind := by
  simp only [State.pick]; (repeat' split) <;> simp
@[simp] theorem State.pick_pending (s : State) : (s.pick).pending = s.pending := by
  simp only [State.pick]; (repeat' split) <;> simp

/-! ## Port -/

@[simp] theorem State.answer_clock (s : State) (code : Byte) (r : Reply) : (s.answer code r).clock = s.clock := by
  simp only [State.answer]; simp
@[simp] theorem State.answer_drivers (s : State) (code : Byte) (r : Reply) : (s.answer code r).drivers = s.drivers := by
  simp only [State.answer]; simp
@[simp] theorem State.answer_tankers (s : State) (code : Byte) (r : Reply) : (s.answer code r).tankers = s.tankers := by
  simp only [State.answer]; simp
@[simp] theorem State.answer_consignments (s : State) (code : Byte) (r : Reply) : (s.answer code r).consignments = s.consignments := by
  simp only [State.answer]; simp
@[simp] theorem State.answer_refCounts (s : State) (code : Byte) (r : Reply) : (s.answer code r).refCounts = s.refCounts := by
  simp only [State.answer]; simp
@[simp] theorem State.answer_store (s : State) (code : Byte) (r : Reply) : (s.answer code r).store = s.store := by
  simp only [State.answer]; simp
@[simp] theorem State.answer_engine (s : State) (code : Byte) (r : Reply) : (s.answer code r).engine = s.engine := by
  simp only [State.answer]; simp
@[simp] theorem State.answer_filling (s : State) (code : Byte) (r : Reply) : (s.answer code r).filling = s.filling := by
  simp only [State.answer]; simp
@[simp] theorem State.answer_slots (s : State) (code : Byte) (r : Reply) : (s.answer code r).slots = s.slots := by
  simp only [State.answer]; simp
@[simp] theorem State.answer_bus (s : State) (code : Byte) (r : Reply) : (s.answer code r).bus = s.bus := by
  simp only [State.answer]; simp
@[simp] theorem State.answer_attention (s : State) (code : Byte) (r : Reply) : (s.answer code r).attention = s.attention := by
  simp only [State.answer]; simp
@[simp] theorem State.answer_startKind (s : State) (code : Byte) (r : Reply) : (s.answer code r).startKind = s.startKind := by
  simp only [State.answer]; simp
@[simp] theorem State.answer_pending (s : State) (code : Byte) (r : Reply) : (s.answer code r).pending = s.pending := by
  simp only [State.answer]; simp

@[simp] theorem State.portFails_clock (s : State) (code : Byte) (r : ResultCode) : (s.portFails code r).clock = s.clock := by
  simp only [State.portFails]; simp
@[simp] theorem State.portFails_drivers (s : State) (code : Byte) (r : ResultCode) : (s.portFails code r).drivers = s.drivers := by
  simp only [State.portFails]; simp
@[simp] theorem State.portFails_tankers (s : State) (code : Byte) (r : ResultCode) : (s.portFails code r).tankers = s.tankers := by
  simp only [State.portFails]; simp
@[simp] theorem State.portFails_consignments (s : State) (code : Byte) (r : ResultCode) : (s.portFails code r).consignments = s.consignments := by
  simp only [State.portFails]; simp
@[simp] theorem State.portFails_refCounts (s : State) (code : Byte) (r : ResultCode) : (s.portFails code r).refCounts = s.refCounts := by
  simp only [State.portFails]; simp
@[simp] theorem State.portFails_store (s : State) (code : Byte) (r : ResultCode) : (s.portFails code r).store = s.store := by
  simp only [State.portFails]; simp
@[simp] theorem State.portFails_engine (s : State) (code : Byte) (r : ResultCode) : (s.portFails code r).engine = s.engine := by
  simp only [State.portFails]; simp
@[simp] theorem State.portFails_filling (s : State) (code : Byte) (r : ResultCode) : (s.portFails code r).filling = s.filling := by
  simp only [State.portFails]; simp
@[simp] theorem State.portFails_slots (s : State) (code : Byte) (r : ResultCode) : (s.portFails code r).slots = s.slots := by
  simp only [State.portFails]; simp
@[simp] theorem State.portFails_bus (s : State) (code : Byte) (r : ResultCode) : (s.portFails code r).bus = s.bus := by
  simp only [State.portFails]; simp
@[simp] theorem State.portFails_attention (s : State) (code : Byte) (r : ResultCode) : (s.portFails code r).attention = s.attention := by
  simp only [State.portFails]; simp
@[simp] theorem State.portFails_startKind (s : State) (code : Byte) (r : ResultCode) : (s.portFails code r).startKind = s.startKind := by
  simp only [State.portFails]; simp
@[simp] theorem State.portFails_pending (s : State) (code : Byte) (r : ResultCode) : (s.portFails code r).pending = s.pending := by
  simp only [State.portFails]; simp

@[simp] theorem State.markOverrun_clock (s : State) : (s.markOverrun).clock = s.clock := by
  simp only [State.markOverrun]; simp
@[simp] theorem State.markOverrun_drivers (s : State) : (s.markOverrun).drivers = s.drivers := by
  simp only [State.markOverrun]; simp
@[simp] theorem State.markOverrun_tankers (s : State) : (s.markOverrun).tankers = s.tankers := by
  simp only [State.markOverrun]; simp
@[simp] theorem State.markOverrun_consignments (s : State) : (s.markOverrun).consignments = s.consignments := by
  simp only [State.markOverrun]; simp
@[simp] theorem State.markOverrun_refCounts (s : State) : (s.markOverrun).refCounts = s.refCounts := by
  simp only [State.markOverrun]; simp
@[simp] theorem State.markOverrun_store (s : State) : (s.markOverrun).store = s.store := by
  simp only [State.markOverrun]; simp
@[simp] theorem State.markOverrun_engine (s : State) : (s.markOverrun).engine = s.engine := by
  simp only [State.markOverrun]; simp
@[simp] theorem State.markOverrun_filling (s : State) : (s.markOverrun).filling = s.filling := by
  simp only [State.markOverrun]; simp
@[simp] theorem State.markOverrun_slots (s : State) : (s.markOverrun).slots = s.slots := by
  simp only [State.markOverrun]; simp
@[simp] theorem State.markOverrun_bus (s : State) : (s.markOverrun).bus = s.bus := by
  simp only [State.markOverrun]; simp
@[simp] theorem State.markOverrun_attention (s : State) : (s.markOverrun).attention = s.attention := by
  simp only [State.markOverrun]; simp
@[simp] theorem State.markOverrun_startKind (s : State) : (s.markOverrun).startKind = s.startKind := by
  simp only [State.markOverrun]; simp
@[simp] theorem State.markOverrun_pending (s : State) : (s.markOverrun).pending = s.pending := by
  simp only [State.markOverrun]; simp

end Sys2Proof.Machine
end

