-- ==== Sys2Proof/Laws/Ops.lean ====
section
/-! SUPPORT. The shared operations: for each, one lemma that says what it does to the state it changes. -/

namespace Sys2Proof.Machine

/-! ## Registers -/

/-- A lookup answers a record with the key it was asked for. -/
theorem lookupBy_key {α : Type} {key : α → Nat} {k : Nat} {xs : List α} {x : α} (h : lookupBy key k xs = some x) :
    key x = k := by
  have := List.find?_some h
  simpa using this

/-- A lookup answers a member of the register. -/
theorem lookupBy_mem {α : Type} {key : α → Nat} {k : Nat} {xs : List α} {x : α} (h : lookupBy key k xs = some x) : x ∈ xs :=
  List.mem_of_find?_eq_some h

/-- A lookup after a change of one record. -/
theorem lookupBy_updateBy {α : Type} (key : α → Nat) (n k : Nat) (f : α → α) (hf : ∀ x, key (f x) = key x) (xs : List α) :
    lookupBy key k (updateBy key n f xs) = if k = n then (lookupBy key k xs).map f else lookupBy key k xs := by
  induction xs with
  | nil => simp [lookupBy, updateBy]
  | cons x xs ih =>
    simp only [lookupBy, updateBy, List.map_cons, List.find?_cons] at ih ⊢
    by_cases hx : key x = n
    · by_cases hk : k = n
      · subst hk; simp [hx, hf]
      · have : ¬ n = k := fun e => hk e.symm
        have hb : (n == k) = false := by simpa using this
        simpa [hx, hf, hk, hb] using ih
    · by_cases hk : key x = k
      · subst hk; simp [hx]
      · have hb : (key x == k) = false := by simpa using hk
        simpa [hx, hb] using ih

/-- A lookup after a record with a new key has been added. -/
theorem lookupBy_insertBy {α : Type} (key : α → Nat) (k : Nat) (y : α) (xs : List α)
    (hy : lookupBy key (key y) xs = none) :
    lookupBy key k (insertBy key y xs) = if k = key y then some y else lookupBy key k xs := by
  induction xs with
  | nil =>
    by_cases hk : k = key y
    · simp [lookupBy, insertBy, hk]
    · have : ¬ key y = k := fun e => hk e.symm
      simp [lookupBy, insertBy, hk, this]
  | cons x xs ih =>
    have hx : ¬ key x = key y := by
      intro e; simp [lookupBy, e] at hy
    have hrest : lookupBy key (key y) xs = none := by
      simp only [lookupBy, List.find?_eq_none] at hy ⊢
      exact fun z hz => hy z (List.mem_cons_of_mem _ hz)
    have ih := ih hrest
    by_cases hlt : key y < key x
    · by_cases hk : k = key y
      · simp [lookupBy, insertBy, hlt, hk]
      · have : ¬ key y = k := fun e => hk e.symm
        simp [lookupBy, insertBy, hlt, hk, this]
    · have hne : ¬ key y = key x := fun e => hx e.symm
      simp only [lookupBy, insertBy, hlt, hne, if_false, List.find?_cons] at ih ⊢
      by_cases hk : key x = k
      · subst hk; simp [hx]
      · have hb : (key x == k) = false := by simpa using hk
        simpa [hb] using ih

/-- A lookup after a record has been removed. -/
theorem lookupBy_removeBy {α : Type} (key : α → Nat) (n k : Nat) (xs : List α) :
    lookupBy key k (removeBy key n xs) = if k = n then none else lookupBy key k xs := by
  induction xs with
  | nil => simp [lookupBy, removeBy]
  | cons x xs ih =>
    simp only [lookupBy, removeBy] at ih ⊢
    by_cases hx : key x = n
    · by_cases hk : k = n
      · simpa [hx, hk] using ih
      · have : ¬ n = k := fun e => hk e.symm
        simpa [hx, hk, this] using ih
    · by_cases hk : key x = k
      · subst hk; simp [hx]
      · have hb : (key x == k) = false := by simpa using hk
        simpa [hx, hb] using ih

/-! ## Slots and permit slots -/

/-- The slot of a bay after one bay's slot has changed. -/
theorem State.slot_updateSlot (s : State) (a b : Bay) (f : Slot → Slot) :
    (s.updateSlot b f).slot a = if a = b then f (s.slot b) else s.slot a := by
  simp [State.updateSlot, State.slot, PerBay.look_put]

/-- The permit slot of a bay after one bay's has been replaced. -/
theorem State.permitSlot_setPermitSlot (s : State) (a b : Bay) (p : PermitSlot) :
    (s.setPermitSlot b p).permitSlot a = if a = b then p else s.permitSlot a := by
  simp [State.setPermitSlot, State.permitSlot, PerBay.look_put]

/-! ## Flags -/

/-- A raise of a gantry flag adds its bit, leaves the bays' flags, and puts ATTN where the flags and masks say. -/
theorem State.raiseGantry_attention (s : State) (k : GantryKind) :
    (s.raiseGantry k).attention.gantry = s.attention.gantry ||| bitMask k.bit
      ∧ (s.raiseGantry k).attention.bays = s.attention.bays
      ∧ (s.raiseGantry k).attention.attn = attnLevel s.store.settings (s.raiseGantry k).attention :=
  ⟨rfl, rfl, rfl⟩

/-- A raise of a bay's flag adds its bit, leaves every other flag, and puts ATTN where the flags and masks say. -/
theorem State.raiseBay_attention (s : State) (b : Bay) (k : BayKind) :
    (s.raiseBay b k).attention.gantry = s.attention.gantry
      ∧ (∀ a, (s.raiseBay b k).attention.bays.look a =
          if a = b then s.attention.bays.look b ||| bitMask k.bit else s.attention.bays.look a)
      ∧ (s.raiseBay b k).attention.attn = attnLevel s.store.settings (s.raiseBay b k).attention :=
  ⟨rfl, fun a => by
    show ((s.attention.bays.put b _).look a) = _
    rw [PerBay.look_put], rfl⟩

/-! ## Bus queues -/

/-- Queueing: the command takes the newest place, or the bay's queue is full and QUEUE_FULL is raised. -/
theorem State.queueCommand_cases (s : State) (b : Bay) (c : BusCommand) :
    ((s.waitingOf b).length < 4
        ∧ s.queueCommand b c = s.withBus { s.bus with outbound := s.bus.outbound ++ [{ bay := b, command := c }] })
      ∨ (4 ≤ (s.waitingOf b).length ∧ s.queueCommand b c = s.raiseGantry .queueFull) := by
  by_cases h : (s.waitingOf b).length < 4
  · exact .inl ⟨h, by simp [State.queueCommand, Config.maxWaiting, h]⟩
  · exact .inr ⟨by omega, by simp [State.queueCommand, Config.maxWaiting, h]⟩

/-- Queueing changes the waiting commands of the bus, and nothing else of it. -/
theorem State.queueCommand_bus (s : State) (b : Bay) (c : BusCommand) :
    ∃ q, (s.queueCommand b c).bus = { s.bus with outbound := q } := by
  rcases s.queueCommand_cases b c with ⟨_, h⟩ | ⟨_, h⟩ <;> rw [h]
  · exact ⟨_, rfl⟩
  · exact ⟨s.bus.outbound, by simp⟩

/-- A LAMP replaces the one that waits, or is queued. -/
theorem State.queueLamp_cases (s : State) (b : Bay) (mark : Bool) :
    (s.lampWaits b = true
        ∧ s.queueLamp b mark =
          s.withBus { s.bus with outbound := s.bus.outbound.map (replaceLamp b (s.slot b).go (s.slot b).call mark) })
      ∨ (s.lampWaits b = false ∧ s.queueLamp b mark = s.queueCommand b (.lamp (s.slot b).go (s.slot b).call mark)) := by
  cases h : s.lampWaits b
  · exact .inr ⟨rfl, by simp [State.queueLamp, h]⟩
  · exact .inl ⟨rfl, by simp [State.queueLamp, h]⟩

/-- A LAMP changes the waiting commands of the bus, and nothing else of it. -/
theorem State.queueLamp_bus (s : State) (b : Bay) (mark : Bool) : ∃ q, (s.queueLamp b mark).bus = { s.bus with outbound := q } := by
  rcases s.queueLamp_cases b mark with ⟨_, h⟩ | ⟨_, h⟩ <;> rw [h]
  · exact ⟨_, rfl⟩
  · exact s.queueCommand_bus b _

/-! ## Lamps and arm lock -/

/-- Recomputing GO changes the GO field of its own slot at most. -/
theorem State.recomputeGo_slot (s : State) (a b : Bay) :
    (s.recomputeGo b).slot a =
      if a = b ∧ (s.slot b).link = .up then { s.slot b with go := s.computedGo b } else s.slot a := by
  have look : ∀ (u v : State), u.slots = v.slots → u.slot a = v.slot a := fun u v h => by simp [State.slot, h]
  unfold State.recomputeGo
  split
  · rename_i h
    rw [look _ _ (State.queueLamp_slots _ _ _), State.slot_updateSlot]
    simp only [h.1, and_true]
  · rename_i h
    split
    · rename_i e
      obtain ⟨rfl, hl⟩ := e
      have hg : s.computedGo a = (s.slot a).go := Decidable.byContradiction fun hne => h ⟨hl, hne⟩
      rw [hg]
    · rfl

/-- Recomputing the lock sets the desired state of its own slot. -/
theorem State.recomputeLock_slot (s : State) (a b : Bay) :
    (s.recomputeLock b).slot a = if a = b then { s.slot b with lockDesired := (s.slot b).state.lock } else s.slot a := by
  have look : ∀ (u v : State), u.slots = v.slots → u.slot a = v.slot a := fun u v h => by simp [State.slot, h]
  by_cases h : (s.slot b).lockDesired = (s.slot b).state.lock
  · simp only [State.recomputeLock, h, if_true]
    split
    · subst_vars; rw [← h]
    · rfl
  · simp only [State.recomputeLock, h, if_false]
    rw [look _ _ (State.testLock_slots _ _), State.slot_updateSlot]

/-! ## The end of a permit -/

/-- The filling state after the end of a permit: the bay's permit slot is empty, and nothing else of it has changed. -/
theorem State.endPermit_filling (s : State) (b : Bay) (dest : SlotState) (close : Option Nat) :
    (s.endPermit b dest close).filling = { s.filling with permits := s.filling.permits.put b .empty } := by
  cases close <;> simp [State.endPermit, State.setPermitSlot]

/-- The slot after the end of a permit: a LOADING slot goes where the event says; GO and the lock desired follow. -/
theorem State.endPermit_slot (s : State) (b : Bay) (dest : SlotState) (close : Option Nat) :
    ∃ go lock, (s.endPermit b dest close).slot b =
      { (if (s.slot b).state = .loading then (s.slot b).move dest else s.slot b) with go := go, lockDesired := lock } := by
  have look : ∀ (u v : State), u.slots = v.slots → u.slot b = v.slot b := fun u v h => by simp [State.slot, h]
  have key : ∀ u : State,
      u.slot b = (if (s.slot b).state = .loading then (s.slot b).move dest else s.slot b) →
      ∃ go lock, ((u.recomputeGo b).recomputeLock b).slot b =
        { (if (s.slot b).state = .loading then (s.slot b).move dest else s.slot b) with go := go, lockDesired := lock } := by
    intro u hu
    rw [← hu, State.recomputeLock_slot, if_pos rfl, State.recomputeGo_slot]
    split
    · exact ⟨_, _, rfl⟩
    · exact ⟨(u.slot b).go, _, rfl⟩
  have base : ∀ u : State, u = (s.setPermitSlot b .empty).updateSlot b
      (fun slot => if slot.state = .loading then slot.move dest else slot) →
      u.slot b = (if (s.slot b).state = .loading then (s.slot b).move dest else s.slot b) := by
    intro u hu
    subst hu
    rw [State.slot_updateSlot, if_pos rfl, look _ _ (State.setPermitSlot_slots s b .empty)]
  cases close with
  | none => exact key _ (base _ rfl)
  | some n =>
    refine key _ ?_
    rw [look _ _ (State.queueCommand_slots _ _ _)]
    exact base _ rfl

/-- The slots and permit slots of other bays are not touched by the end of a permit. -/
theorem State.endPermit_others (s : State) {a b : Bay} (h : a ≠ b) (dest : SlotState) (close : Option Nat) :
    (s.endPermit b dest close).slot a = s.slot a ∧ (s.endPermit b dest close).permitSlot a = s.permitSlot a := by
  have look : ∀ (u v : State), u.slots = v.slots → u.slot a = v.slot a := fun u v h => by simp [State.slot, h]
  constructor
  · simp only [State.endPermit]
    rw [State.recomputeLock_slot, if_neg h, State.recomputeGo_slot, if_neg (fun e => h e.1)]
    cases close <;> simp [look _ _ (State.queueCommand_slots _ _ _), State.slot_updateSlot, h,
      look _ _ (State.setPermitSlot_slots s b .empty)]
  · simp [State.permitSlot, State.endPermit_filling, PerBay.look_put, h]

/-- The stall operation: nothing without a live permit; with one, the line is STALLED with the cause, its stall table entry
made, the permit ended, and PERMIT_ENDED raised. -/
theorem State.stall_cases (s : State) (b : Bay) (cause : Cause) (dest : SlotState) :
    ((s.permitSlot b).permit = none ∧ s.stall b cause dest = s)
      ∨ ∃ p close, (s.permitSlot b).permit = some p ∧ s.stall b cause dest =
          (((s.updateLine p.consignment p.line (fun l => { l with state := .stalled, cause := some cause })).addStallEntry
            { consignment := p.consignment, compartment := p.line, permit := p.number, base := p.base }).endPermit b dest
              close).raiseBay b .permitEnded := by
  unfold State.stall
  split
  · exact .inl ⟨‹_›, rfl⟩
  · exact .inr ⟨_, _, ‹_›, rfl⟩

/-- No permit is live at the bay after a stall. -/
theorem State.stall_permit (s : State) (b : Bay) (cause : Cause) (dest : SlotState) :
    ((s.stall b cause dest).permitSlot b).permit = none := by
  rcases s.stall_cases b cause dest with ⟨hn, h⟩ | ⟨p, close, _, h⟩ <;> rw [h]
  · exact hn
  · simp [State.permitSlot, State.endPermit_filling, PermitSlot.empty]

/-! ## The bus and the port -/

/-- A pick: the bus is not free and nothing happens; or an URGENT grant; or a transmission; or a ROUTINE grant or nothing. -/
theorem State.pick_cases (s : State) :
    (s.busFree = false ∧ s.pick = s)
      ∨ (∃ b, s.lowestRank (fun b => s.bus.urgent.look b) = some b ∧ s.pick = s.issueGrant b .urgent)
      ∨ (∃ w, s.bus.outbound.find? s.sendable = some w ∧ s.pick = s.beginTransmission w)
      ∨ (s.engine.evaluation.isSome = true ∧ s.pick = s)
      ∨ (s.engine.evaluation = none ∧ s.pick = s.pickRoutine) := by
  unfold State.pick
  cases hf : s.busFree
  · exact .inl ⟨rfl, by simp⟩
  · simp only [if_true]
    split
    · exact .inr (.inl ⟨_, ‹_›, rfl⟩)
    · split
      · exact .inr (.inr (.inl ⟨_, ‹_›, rfl⟩))
      · cases he : s.engine.evaluation
        · exact .inr (.inr (.inr (.inr ⟨rfl, by simp⟩)))
        · exact .inr (.inr (.inr (.inl ⟨rfl, by simp⟩)))

/-- A host command's frame while none executes: the owner's state, with the port's part of the answer. -/
theorem State.hostFrame_taken (s t : State) (code : Byte) (owner : State → State × Reply) (r : ResultCode)
    (payload : List Byte) (idle : s.port.executing = false) (h : owner s = (t, ⟨r, payload⟩)) :
    s.hostFrame code owner = t.taken code r payload := by
  simp [State.hostFrame, idle, State.execute, h, State.answer, State.taken, State.withPort]

/-- A host command's frame while one executes: only the overrun mark is set. -/
theorem State.hostFrame_executing (s : State) (code : Byte) (owner : State → State × Reply) (busy : s.port.executing = true) :
    s.hostFrame code owner = s.markOverrun := by
  simp [State.hostFrame, busy]

/-- A host command's frame touches nothing beyond what its owner does and the port. -/
theorem State.hostFrame_cases (s : State) (code : Byte) (owner : State → State × Reply) :
    (s.port.executing = true ∧ s.hostFrame code owner = s.markOverrun)
      ∨ (s.port.executing = false
          ∧ s.hostFrame code owner = (owner s).1.taken code (owner s).2.result (owner s).2.payload) := by
  cases h : s.port.executing
  · exact .inr ⟨rfl, s.hostFrame_taken _ _ _ _ _ h rfl⟩
  · exact .inl ⟨rfl, s.hostFrame_executing _ _ h⟩

/-- A message: ignored when the bay does not hold the bus; otherwise the hold ends, the message is delivered if it may be,
and a pick is made. -/
theorem State.message_cases (s : State) (b : Bay) (inRange hello : Bool) (deliver : State → State) :
    s.message b inRange hello deliver = s
      ∨ (s.holds b ∧ s.message b inRange hello deliver =
          (if inRange && (hello || (s.slot b).link == .up) then deliver (s.withBus { s.bus with grant := none })
           else s.withBus { s.bus with grant := none }).pick) := by
  unfold State.message
  split
  · rename_i g hg
    by_cases h : g.bay = b ∧ g.phase = .held
    · refine .inr ⟨by simp [State.holds, hg, h.1, h.2], ?_⟩
      simp only [h, and_self, if_true]
      have : (s.withBus { s.bus with grant := none }).slot b = s.slot b := rfl
      rw [this]
      split <;> rfl
    · exact .inl (by simp [h])
  · exact .inl rfl

/-- A message from the holder. -/
theorem State.message_held (s : State) (b : Bay) (inRange hello : Bool) (deliver : State → State) (h : s.holds b)
    (hd : (inRange && (hello || (s.slot b).link == .up)) = true) :
    s.message b inRange hello deliver = (deliver (s.withBus { s.bus with grant := none })).pick := by
  obtain ⟨g, hg, he⟩ := Option.map_eq_some_iff.1 h
  simp only [Prod.mk.injEq] at he
  have hs : (s.withBus { s.bus with grant := none }).slot b = s.slot b := rfl
  simp only [State.message, hg, he, and_self, if_true, hs, hd]

/-! ## The commands on their way to a station -/

/-- The oldest command a test selects, moved to the front of its own bay's commands, leaves their order, when the test sees
only the bay. -/
theorem filter_eraseP_of_find? {p : Waiting → Bool} {w : Waiting} (b : Bay) (bays : ∀ x y : Waiting, x.bay = y.bay → p x = p y) :
    ∀ l : List Waiting, l.find? p = some w →
      (if w.bay = b then [w] else []) ++ (l.eraseP p).filter (fun x => x.bay == b) = l.filter (fun x => x.bay == b)
  | [], h => by simp at h
  | x :: l, h => by
    cases hp : p x
    · have hl : l.find? p = some w := by simpa [List.find?_cons, hp] using h
      have hw : p w = true := List.find?_some hl
      have ih := filter_eraseP_of_find? b bays l hl
      by_cases hx : x.bay = b
      · have hne : w.bay ≠ b := fun e => by rw [bays x w (hx.trans e.symm), hw] at hp; cases hp
        simpa [List.eraseP_cons, hp, hx, hne] using ih
      · simpa [List.eraseP_cons, hp, hx] using ih
    · have hx : x = w := by simpa [List.find?_cons, hp] using h
      subst hx
      by_cases hb : x.bay = b <;> simp [hp, hb]

/-- A pick leaves the commands on their way to each station as they are. -/
theorem State.pick_toStation (s : State) (b : Bay) : s.pick.toStation b = s.toStation b := by
  unfold State.pick
  cases hf : s.busFree
  · simp
  · have ht : s.bus.transmission = none := by
      simp only [State.busFree, Bool.and_eq_true, Option.isNone_iff_eq_none] at hf; exact hf.2
    simp only [if_true]
    split
    · rfl
    · split
      · rename_i w hw
        have h := filter_eraseP_of_find? (p := s.sendable) b
          (fun x y e => by simp [State.sendable, e]) s.bus.outbound hw
        have h := congrArg (List.map Waiting.command) h
        simp only [List.map_append] at h
        simp only [State.toStation, State.sendingTo, State.waitingOf, State.beginTransmission, State.withBus, ht]
        rw [← h]
        by_cases hb : w.bay = b <;> simp [hb]
      · split
        · rfl
        · unfold State.pickRoutine
          split
          · dsimp only
            split <;> rfl
          · rfl

/-- A queued command goes last among those on their way to its station, or, where 4 wait, is not queued and raises QUEUE_FULL
(R154). -/
theorem State.queueCommand_toStation (s : State) (b : Bay) (c : BusCommand) :
    (s.queueCommand b c).toStation b = s.toStation b ++ (if (s.waitingOf b).length < 4 then [c] else []) := by
  unfold State.queueCommand Config.maxWaiting
  split
  · simp [State.toStation, State.sendingTo, State.waitingOf, State.withBus]
  · simp only [List.append_nil]; rfl

/-! ## The end of a response and the resets -/

/-- A reset that is due takes effect at its row, and so it does at the end of its RESET's OK (R167). -/
theorem execResponseSent_awaitsReset (s : State) (kind : StartKind) (h : s.awaitsReset kind) :
    execResponseSent s = .next (s.takeReset kind) := by
  obtain ⟨h1, h2, h3⟩ := h
  obtain ⟨r, hr⟩ := List.length_eq_one_iff.1 h3
  simp [execResponseSent, hr, h1, h2]

/-- The soft reset a RESET has arranged. -/
theorem execSoftReset_awaitsReset (s : State) (h : s.awaitsReset .soft) : execSoftReset s = .next s.softRestart := by
  obtain ⟨h1, h2, h3⟩ := h
  obtain ⟨r, hr⟩ := List.length_eq_one_iff.1 h3
  simp [execSoftReset, State.resetDue, State.takeReset, hr, h1, h2]

/-- The hard reset a RESET has arranged. -/
theorem execHardReset_awaitsReset (s : State) (h : s.awaitsReset .hard) : execHardReset s = .next (s.restart .hard) := by
  obtain ⟨h1, h2, h3⟩ := h
  obtain ⟨r, hr⟩ := List.length_eq_one_iff.1 h3
  simp [execHardReset, State.resetDue, State.takeReset, hr, h1, h2]

end Sys2Proof.Machine
end

