-- ==== Sys2Proof/Tests/Slice0.lean ====
section
/-! SUPPORT. The model's own tests: refused terms of WellFormed, frames written out byte by byte from the spec, worked cases
of the chapters, and a witness for the hypotheses of every obligation that has any. -/

namespace Sys2Proof.Tests

set_option Elab.async false

open Sys2Proof.Machine

/-! ## A small yard: the load of the chapters' worked case, part way -/

/-- The state after a command. -/
def after (i : Instr) (s : State) : State :=
  match exec i s with
  | .next t => t
  | .fault _ | .refused _ => s

/-- The result and payload bytes of the last response handed to the link. -/
def answer (s : State) : Option (ResultCode × List Nat) :=
  s.lastResponse?.map (fun r => (r.result, r.payload.map (·.toNat)))

/-- Products 7 and 12 (04, worked case). -/
def diesel : Product :=
  { defined := true, un := 1202, hazard := 3, subsidiary := 0, packing := .iii, group := 1, density := 830 }
def petrol : Product :=
  { defined := true, un := 1203, hazard := 3, subsidiary := 0, packing := .ii, group := 2, density := 745 }

/-- A round of 240 minutes driving, 320 duty, longest leg 150. -/
def round : RoundPlan := { drive := 240, duty := 320, longestLeg := 150 }

/-- A driver endorsed for class 3 with the accounts of the worked case. -/
def driver (card : Nat) : Driver :=
  { card := card, classes := 0x0008, tank := true, licenceUntil := 430, endorsementUntil := 426,
    accounts := { driveDay := 210, driveCont := 150, dutyShift := 265, drivePeriod := 2900 }, summaryStamp := 611965,
    arrival := some 611965, state := .onSite, hold := false, consignment := none, committed := none, projection := none }

/-- A line planned for a compartment. -/
def planned (compartment product ordered : Nat) : Line :=
  { compartment := compartment, product := product, ordered := ordered, loaded := 0, state := .planned, cause := none,
    lastPermit := none }

def ullage (capacity : Nat) (last : Option Nat) : Compartment := { capacity := capacity, lastProduct := last, drained := false }

def lorry : Tanker :=
  { number := 4410, maxPayload := 25000, state := .planned, bay := some .b5,
    compartments := [ullage 9000 (some 7), ullage 8500 none, ullage 8500 (some 7), ullage 5000 none] }

def papers : Consignment :=
  { number := 70002118, tanker := 4410, driver := 40117203, plan := round, destination := some 318, state := .opened,
    lines := [{ planned 1 7 8500 with state := .filling, loaded := 3200, lastPermit := some 1041 }, planned 2 12 8000,
      { planned 3 12 8000 with state := .stalled, cause := some .clamp, lastPermit := some 1040, loaded := 100 }],
    image := none }

/-- A COMPLETE consignment whose unit is away from the bays. -/
def finished : Consignment :=
  { papers with
    number := 32, tanker := 22, driver := 12, state := .complete,
    lines := [{ planned 1 7 4000 with state := .filled, loaded := 4000 }, { planned 2 12 10 with state := .cancelled }] }

/-- A RELEASED consignment. -/
def gone : Consignment :=
  { finished with number := 33, tanker := 23, driver := 14, state := .released }

def away : CommittedRound := { drive := 240, duty := 320, stamp := 611000 }

/-- A slot that is UP with the clamp closed. -/
def joined (state : SlotState) (present : Option Present) (card : Option Nat) : Slot :=
  { link := .up, state := state, present := present, card := card, clamp := .closed, probe := .healthy, go := .off,
    call := .off, lockReported := .disengaged, lockDesired := state.lock, lastRefusal := none }

def permit : Permit :=
  { number := 1041, consignment := 70002118, line := 1, base := 0, stopPoint := 8380, slowdownPoint := 7780,
    issueMinute := 611996, slack := 90 }

/-- Bay 5 is loading line 1 of the consignment; bay 6 holds an idle unit; bay 7 is vacant; the others are OFFLINE. -/
def yard : State :=
  let r := State.reset
  let settings := { r.store.settings with
    products := (r.store.settings.products.set 6 diesel).set 11 petrol,
    bays := r.store.settings.bays.put .b5
      { BaySettings.default .b5 with flow := 1800, allowance := 120, slowdown := 600 } }
  { r with
    clock := { minute := 612004, unset := false, counted := 0 },
    drivers := [driver 11, { driver 12 with state := .assigned, consignment := some 32 },
      { driver 13 with state := .dispatched, arrival := none, committed := some away },
      { driver 14 with state := .dispatched, arrival := none, committed := some away, consignment := some 33 },
      { driver 40117203 with state := .assigned, consignment := some 70002118 }],
    tankers := [{ lorry with number := 21, state := .idle, bay := none }, { lorry with number := 22, bay := none },
      { lorry with number := 23, state := .released, bay := none }, { lorry with number := 24, state := .idle, bay := some .b6 },
      lorry],
    consignments := [finished, gone, papers],
    refCounts := (r.refCounts.set 6 13).set 11 4,
    store := { r.store with settings := settings, image := { contents := some settings, checksumMatches := true } },
    engine := { r.engine with counter := 1042 },
    filling := { r.filling with
      permits := r.filling.permits.put .b5
        { permit := some permit, lastReading := some 3200, flow := some .flowing, timer := some 10000, output := true },
      stallTable := [{ consignment := 70002118, compartment := 3, permit := 1040, base := 0 }] },
    slots := ((r.slots.put .b5
      { joined .loading (some ⟨4410, true⟩) (some 40117203) with go := .on, lockReported := .engaged }).put .b6
      (joined .occupied (some ⟨24, true⟩) none)).put .b7 (joined .vacant none none),
    bus := { Bus.initial with
      outstanding := Bus.initial.outstanding.put .b5 (some { command := .lamp .on .off true, number := 255, timer := 500 }) },
    attention := { gantry := 0x0001, bays := r.attention.bays, attn := true } }

/-- The yard with bay b holding the bus. -/
def held (b : Bay) : State :=
  yard.withBus { yard.bus with grant := some { bay := b, cls := .routine, phase := .held, timer := 20 } }

/-- The yard with its front command waiting. -/
def waiting : State := yard.withPending [.getClock]

/-- The yard with a response of the executing command being sent. -/
def executing : State := yard.withPort { yard.port with
  executing := true, sending := [{ code := 0x11, result := .ok, payload := [] }] }

/-- The yard with a RESET's OK being sent and a mark noticed meanwhile. -/
def awaiting (kind : StartKind) : State := yard.withPort { yard.port with
  executing := true, overrun := true, resetArranged := some kind, sending := [{ code := 0x02, result := .ok, payload := [] }] }

/-- The yard with a save at a stage, its copy equal to the working copy. -/
def saving (stage : SaveState) (matching : Bool) : State := yard.withStore { yard.store with
  save := stage, copy := some yard.store.settings,
  image := { contents := some yard.store.settings, checksumMatches := matching } }

/-- The yard with an evaluation of bay 5's request for line 3 in flight, bay 5's permit having ended. -/
def judging (dropped : Bool) (card : Option Nat) : State :=
  let s := (yard.setPermitSlot .b5 .empty).updateSlot .b5 (fun x => { x.move .occupied with card := card })
  let s := s.updateLine 70002118 1 (fun l => { l with state := .filled })
  s.withEngine { s.engine with
    queue := if dropped then [] else [⟨.b5, 3⟩],
    evaluation := some { bay := .b5, compartment := 3, dropped := dropped, heldTanker := some 4410,
                         heldConsignment := some 70002118, heldDriver := some 40117203 } }

/-- The worked case at minute 611,996, before the first permit: bay 5's request for compartment 1 is in flight. -/
def requested : State :=
  let s := (yard.setPermitSlot .b5 .empty).updateSlot .b5 (fun x => x.move .occupied)
  let s := s.withConsignments [finished, gone, { papers with lines := [planned 1 7 8500, planned 2 12 8000, planned 3 12 8000] }]
  let s := (s.setStallTable []).withClock { s.clock with minute := 611996 }
  s.withEngine {
    queue := [⟨.b5, 1⟩], counter := 1041,
    evaluation := some { bay := .b5, compartment := 1, dropped := false, heldTanker := some 4410,
                         heldConsignment := some 70002118, heldDriver := some 40117203 } }

/-- The worked case on permit 1,044, issued with base 3,200 after the clamp stall; bay 5 holds the bus. -/
def resumed : State :=
  (held .b5).setPermitSlot .b5
    { permit := some { permit with number := 1044, base := 3200, stopPoint := 5180, slowdownPoint := 4580 },
      lastReading := none, flow := none, timer := some 60000, output := true }


/-! ## WellFormed -/

def limitsArgs : LimitsArgs :=
  { dDay := 540, cMax := 270, bMin := 45, sDuty := 780, wDrive := 3360, margin := 15, handling := 20, fNom := 2000,
    tolerance := 50, breakFlag := 1 }
def bayArgs : BayArgs :=
  { rank := 5, flow := 1800, allowance := 120, slowdown := 600, groups := 0xFFFF, initialTimeout := 60,
    progressTimeout := 10, enabled := 1 }
def productArgs : ProductArgs :=
  { defined := 1, un := 1202, hazard := 3, subsidiary := 0, packing := 3, group := 1, density := 830 }
def accounts : Accounts := { driveDay := 210, driveCont := 150, dutyShift := 265, drivePeriod := 2900 }
def driverArgs : DriverArgs := { classes := 0x0008, tank := 1, licenceUntil := 430, endorsementUntil := 426, accounts := accounts }
def openArgs : OpenArgs :=
  { number := 70002119, tanker := 21, card := 11, plan := round, destination := ⟨1, 318⟩, lineCount := 2,
    lines := [⟨1, 7, 8500⟩, ⟨2, 12, 8000⟩] }

theorem test_wellFormed_takes_ordinary_terms :
    [Instr.setClock 16777215, .setLimits limitsArgs, .setBay 5 bayArgs, .setProduct 7 productArgs,
      .setSegregation 1 (List.replicate 16 0), .admitDriver 4294967295 driverArgs, .updateSummary 1 accounts,
      .project 11 round ⟨1, 70002118⟩, .admitUnit 4410 1 25000 [⟨9000, 7⟩], .openConsignment openArgs,
      .amendLine 1 1 65535, .ackAttention 255 0xFFFF, .unknownCommand 0x99 (List.replicate 240 0) 0, .drain .b1 8,
      .progress .b1 65535 65535 .flowing, .ack .b1 255 .engaged].all Instr.wellFormed = true := by decide +kernel

theorem test_wellFormed_refuses_wide_settings :
    ([Instr.setClock 16777216, .getBay 256, .getProduct 256, .getSegregation 256, .setBay 256 bayArgs,
      .setProduct 256 productArgs, .setSegregation 256 (List.replicate 16 0), .setSegregation 1 (List.replicate 15 0),
      .setSegregation 1 (256 :: List.replicate 15 0)]
      ++ [{ limitsArgs with dDay := 65536 }, { limitsArgs with cMax := 65536 }, { limitsArgs with bMin := 65536 },
          { limitsArgs with sDuty := 65536 }, { limitsArgs with wDrive := 65536 }, { limitsArgs with margin := 65536 },
          { limitsArgs with handling := 65536 }, { limitsArgs with fNom := 65536 }, { limitsArgs with tolerance := 65536 },
          { limitsArgs with breakFlag := 256 }].map Instr.setLimits
      ++ [{ bayArgs with rank := 256 }, { bayArgs with flow := 65536 }, { bayArgs with allowance := 65536 },
          { bayArgs with slowdown := 65536 }, { bayArgs with initialTimeout := 65536 },
          { bayArgs with progressTimeout := 256 }, { bayArgs with enabled := 256 }].map (Instr.setBay 5)
      ++ [{ productArgs with defined := 256 }, { productArgs with un := 65536 }, { productArgs with hazard := 256 },
          { productArgs with subsidiary := 256 }, { productArgs with packing := 256 }, { productArgs with group := 256 },
          { productArgs with density := 65536 }].map (Instr.setProduct 7)).all (fun i => !i.wellFormed) = true := by
  decide +kernel

theorem test_wellFormed_refuses_wide_driver_terms :
    ([Instr.admitDriver 4294967296 driverArgs, .updateSummary 4294967296 accounts, .holdDriver 4294967296,
      .freeDriver 4294967296, .retireDriver 4294967296, .readDriver 4294967296, .listDrivers 256,
      .project 4294967296 round ⟨0, 0⟩, .project 11 round ⟨256, 0⟩, .project 11 round ⟨1, 4294967296⟩]
      ++ [{ accounts with driveDay := 65536 }, { accounts with driveCont := 65536 }, { accounts with dutyShift := 65536 },
          { accounts with drivePeriod := 65536 }].flatMap
            (fun a => [Instr.updateSummary 11 a, Instr.admitDriver 11 { driverArgs with accounts := a }])
      ++ [{ driverArgs with tank := 256 }, { driverArgs with licenceUntil := 65536 },
          { driverArgs with endorsementUntil := 65536 }].map (Instr.admitDriver 11)
      ++ [{ round with drive := 65536 }, { round with duty := 65536 }, { round with longestLeg := 65536 }].map
            (fun p => Instr.project 11 p ⟨0, 0⟩)).all (fun i => !i.wellFormed) = true := by decide +kernel

theorem test_wellFormed_refuses_wide_unit_and_consignment_terms :
    ([Instr.admitUnit 16777216 0 25000 [], .admitUnit 1 0 65536 [], .admitUnit 1 2 25000 [⟨9000, 7⟩],
      .admitUnit 1 79 25000 (List.replicate 79 ⟨9000, 7⟩), .admitUnit 1 1 25000 [⟨65536, 7⟩],
      .admitUnit 1 1 25000 [⟨9000, 256⟩], .markClean 16777216 1, .markClean 1 256, .retireUnit 16777216,
      .readUnit 16777216, .amendLine 4294967296 1 1, .amendLine 1 256 1, .amendLine 1 1 65536, .cancelLine 4294967296 1,
      .cancelLine 1 256, .closeShort 4294967296 1, .closeShort 1 256, .voidConsignment 4294967296, .release 4294967296,
      .readConsignment 4294967296]
      ++ [{ openArgs with number := 4294967296 }, { openArgs with tanker := 16777216 }, { openArgs with card := 4294967296 },
          { openArgs with plan := { round with duty := 65536 } }, { openArgs with destination := ⟨256, 0⟩ },
          { openArgs with destination := ⟨1, 65536⟩ }, { openArgs with lineCount := 1 },
          { openArgs with lineCount := 55, lines := List.replicate 55 ⟨1, 7, 8500⟩ },
          { openArgs with lineCount := 1, lines := [⟨256, 7, 8500⟩] }, { openArgs with lineCount := 1, lines := [⟨1, 256, 8500⟩] },
          { openArgs with lineCount := 1, lines := [⟨1, 7, 65536⟩] }].map Instr.openConsignment).all (fun i => !i.wellFormed)
      = true := by decide +kernel

theorem test_wellFormed_refuses_wide_bay_and_bus_terms :
    [Instr.bayStatus 256, .stopBay 256, .bayReset 256, .bayLamp 256 0, .bayLamp 5 256, .ackAttention 256 0,
      .unknownCommand 0x10 (List.replicate 241 0) 0, .vehiclePresent .b1 16777216, .card .b1 4294967296, .drain .b1 9,
      .loadRequest .b1 9, .progress .b1 65536 0 .flowing, .progress .b1 0 65536 .flowing, .finish .b1 65536 0,
      .finish .b1 0 65536, .ack .b1 256 .engaged].all (fun i => !i.wellFormed) = true := by decide +kernel

/-! ## Frames, written out from R162, R166 and R168 -/

/-- The clock commands: GET_CLOCK whole, and minute 612,000 = 0x0956A0, low byte first. -/
theorem test_frame_clock :
    commandFrame 0x11 [] = [0xC6, 0x11, 0x00, 0x11, 0x00]
      ∧ decodeFrame 0x11 [] = .command .getClock ∧ decodeFrame 0x10 [0xA0, 0x56, 0x09] = .command (.setClock 612000)
      ∧ (answer (after .getClock (yard.withClock { minute := 612000, unset := false, counted := 0 })))
          = some (.ok, [0xA0, 0x56, 0x09, 0xA9, 0x01, 0x00])
      ∧ ({ code := 0x11, result := .ok, payload := [0xA0, 0x56, 0x09, 0xA9, 0x01, 0x00] } : Response).frame
          = [0xC7, 0x11, 0x00, 0x06, 0xA0, 0x56, 0x09, 0xA9, 0x01, 0x00, 0xC0, 0x01] := by decide +kernel

/-- The port's own commands: RESET's kinds and codes that R166 does not list. -/
theorem test_frame_port :
    decodeFrame 0x01 [] = .command .identify ∧ decodeFrame 0x02 [0] = .command .resetSoft
      ∧ decodeFrame 0x02 [1] = .command .resetHard ∧ decodeFrame 0x02 [2] = .badResetKind
      ∧ decodeFrame 0x99 [] = .unknownCode ∧ decodeFrame 0x01 [0] = .badLength := by decide

/-- Settings: 540 = 0x021C, 270 = 0x010E, 780 = 0x030C, 3360 = 0x0D20, 2000 = 0x07D0; 1800 = 0x0708; 1202 = 0x04B2,
830 = 0x033E. -/
theorem test_frame_settings :
    decodeFrame 0x18 [0x1C, 0x02, 0x0E, 0x01, 45, 0, 0x0C, 0x03, 0x20, 0x0D, 15, 0, 20, 0, 0xD0, 0x07, 50, 0, 1]
        = .command (.setLimits limitsArgs)
      ∧ decodeFrame 0x1A [5, 5, 0x08, 0x07, 120, 0, 0x58, 0x02, 0xFF, 0xFF, 60, 0, 10, 1] = .command (.setBay 5 bayArgs)
      ∧ decodeFrame 0x20 [7, 1, 0xB2, 0x04, 3, 0, 3, 1, 0x3E, 0x03] = .command (.setProduct 7 productArgs)
      ∧ decodeFrame 0x22 (1 :: [0, 0, 0, 0, 0, 0, 1, 2, 0, 0, 0, 0, 0, 0, 0, 0])
          = .command (.setSegregation 1 [0, 0, 0, 0, 0, 0, 1, 2, 0, 0, 0, 0, 0, 0, 0, 0]) := by decide +kernel

/-- Drivers: card 40,117,203 = 0x026423D3; class 3 is bit 3. -/
theorem test_frame_drivers :
    decodeFrame 0x30 [0xD3, 0x23, 0x64, 0x02, 0x08, 0x00, 1, 0xAE, 0x01, 0xAA, 0x01, 0xD2, 0, 0x96, 0, 0x09, 0x01, 0x54, 0x0B]
        = .command (.admitDriver 40117203 driverArgs)
      ∧ decodeFrame 0x37 [11, 0, 0, 0, 0xF0, 0, 0x40, 0x01, 0x96, 0, 1, 0x46, 0x26, 0x2C, 0x04]
          = .command (.project 11 round ⟨1, 70002246⟩)
      ∧ decodeFrame 0x36 [3] = .command (.listDrivers 3) := by decide +kernel

/-- Units and consignments: 4410 = 0x113A, 25,000 = 0x61A8, 9000 = 0x2328, 8500 = 0x2134, 8000 = 0x1F40. -/
theorem test_frame_units_and_consignments :
    decodeFrame 0x40 [0x3A, 0x11, 0x00, 1, 0xA8, 0x61, 0x28, 0x23, 7] = .command (.admitUnit 4410 1 25000 [⟨9000, 7⟩])
      ∧ decodeFrame 0x41 [0x3A, 0x11, 0x00, 4] = .command (.markClean 4410 4)
      ∧ decodeFrame 0x50 [0x0B, 0, 0, 0, 21, 0, 0, 12, 0, 0, 0, 0xF0, 0, 0x40, 0x01, 0x96, 0, 1, 0x3E, 0x01, 2,
          1, 7, 0x34, 0x21, 2, 12, 0x40, 0x1F]
          = .command (.openConsignment { openArgs with number := 11, card := 12 })
      ∧ decodeFrame 0x50 [0x0B, 0, 0, 0, 21, 0, 0, 12, 0, 0, 0, 0xF0, 0, 0x40, 0x01, 0x96, 0, 1, 0x3E, 0x01, 2,
          1, 7, 0x34, 0x21] = .badLength
      ∧ decodeFrame 0x51 [1, 0, 0, 0, 2, 0x34, 0x21] = .command (.amendLine 1 2 8500) := by decide +kernel

/-- Bays and attention. -/
theorem test_frame_bays_and_attention :
    decodeFrame 0x61 [5, 2] = .command (.bayLamp 5 2) ∧ decodeFrame 0x62 [5] = .command (.stopBay 5)
      ∧ decodeFrame 0x71 [0, 0x11, 0x01] = .command (.ackAttention 0 0x0111)
      ∧ decodeFrame 0x72 [0xFF, 0x0F, 0xFF, 0x01] = .command (.setAttentionEnable 0x0FFF 0x01FF) := by decide +kernel

/-- The table gives no bits. -/
theorem test_no_word_spells_a_command : decodeTableWord 16 0x11 = none ∧ State.reset.withFetchWord 16 0x11 = State.reset :=
  ⟨rfl, rfl⟩

/-! ## Worked cases -/

theorem test_reset_is_power_on :
    exec (.powerOn { clamp := perBay (fun _ => .opened), probe := perBay (fun _ => .healthy), esd := false }) State.reset
      = .next State.reset := by rfl

/-- R167: RESET arranges the reset; the end of its OK is the reset, and marks meanwhile earn no OVERRUN. -/
theorem test_reset_takes_effect_when_answered :
    let t := after .responseSent (after .frameMark (after .resetSoft yard))
    (after .resetSoft yard).drivers = yard.drivers ∧ t.drivers = [] ∧ t.startKind = .soft ∧ t.clock = yard.clock
      ∧ t.port.sending = [] ∧ t.port.executing = false ∧ after .softReset yard = yard
      ∧ (after .responseSent (after .resetHard yard)).clock.unset = true := by decide +kernel

/-- 02 case 1: with no context the least slack is -30 on CONT; with the consignment, L is 73 and the least is 90 on DAY. -/
theorem test_case_project :
    let s := (requested.withClock { requested.clock with minute := 611970 }).updateTanker 4410 (fun t => { t with bay := none })
    let d := driver 40117203
    let c := { papers with lines := [planned 1 7 8500, planned 2 12 8000, planned 3 12 8000] }
    let p := s.projectionAlone d round
    let q := s.projectionWith d round c
    (p.slackDuty, p.slackDay, p.slackPeriod, p.slackCont, p.minSlack) = (190, 90, 220, -30, -30)
      ∧ (p.loading, p.binding, p.verdict, p.expiry) = (0, .cont, .short, .valid)
      ∧ (q.slackDuty, q.slackDay, q.slackPeriod, q.slackCont, q.minSlack) = (117, 90, 220, 120, 90)
      ∧ (q.loading, q.binding, q.verdict, q.expiry) = (73, .day, .clear, .valid) := by decide +kernel

/-- 02 case 8: L is capped at 1440, and slack_duty is -980 with a duty of 0. -/
theorem test_case_loading_cap :
    let lines := [1, 2, 3, 4, 5, 6, 7, 8].map (fun c => planned c 7 20000)
    loadingMinutes .default lines 100 = 1440
      ∧ (yard.projection { driver 11 with accounts := ⟨0, 0, 0, 0⟩, summaryStamp := 612004 } round 1440 true).slackDuty = -980 := by
  decide +kernel

/-- 06, worked case: permit 1,041 with stop 8,380, slowdown 7,780 and slack 90; the counter goes to 1,042. -/
theorem test_case_first_permit :
    let t := after .evaluationCompletion requested
    (t.permitSlot .b5).permit = some permit ∧ (t.permitSlot .b5).timer = some 60000 ∧ (t.permitSlot .b5).output = true
      ∧ t.engine.counter = 1042 ∧ t.engine.evaluation = none ∧ (t.slot .b5).state = .loading
      ∧ (t.line? 70002118 1).map (·.state) = some .authorised
      ∧ (t.driver? 40117203).bind (·.projection) = some
          { computedAt := 611996, loading := 74, slackDuty := 90, slackDay := 90, slackPeriod := 220, slackCont := 120,
            minSlack := 90, binding := .day, verdict := .clear, expiry := .valid } := by decide +kernel

/-- 06: an order amended to 3,300 leaves a target of 100 at a loaded volume of 3,200, which is refused RESIDUAL. -/
theorem test_case_residual :
    let s := requested.updateLine 70002118 1 (fun l =>
      { l with ordered := 3300, loaded := 3200, state := .stalled, cause := some .clamp })
    firstFailing (s.checkTable .b5 1) = some .residual
      ∧ ((after .evaluationCompletion s).slot .b5).lastRefusal = some ⟨1, .residual⟩ := by decide +kernel

/-- 07, worked case: a reading below the loaded volume is taken and the volume holds. -/
theorem test_case_lower_reading :
    let t := after (.progress .b5 1041 2590 .flowing) (held .b5)
    (t.permitSlot .b5).lastReading = some 2590 ∧ (t.permitSlot .b5).timer = some 10000
      ∧ (t.line? 70002118 1).map (·.loaded) = some 3200 := by decide +kernel

/-- 07: on base 3,200 a reading of 5,360 passes order plus tolerance, and 5,810 passes the capacity. -/
theorem test_case_overrun_and_overfill :
    let t := after (.progress .b5 1044 5360 .flowing) resumed
    let u := after (.progress .b5 1044 5810 .flowing) resumed
    (t.line? 70002118 1).map (fun l => (l.loaded, l.state, l.cause)) = some (8560, .filled, none)
      ∧ t.attention.bays.look .b5 = 0x000C
      ∧ (u.line? 70002118 1).map (fun l => (l.loaded, l.state, l.cause)) = some (9010, .stalled, some .overfill)
      ∧ u.attention.bays.look .b5 = 0x0014 := by decide +kernel

/-- 07: FINISH (1,044, 5,295) leaves the line FILLED at 8,495 with no CLOSE queued. -/
theorem test_case_finish :
    let t := after (.finish .b5 1044 5295) resumed
    (t.line? 70002118 1).map (fun l => (l.loaded, l.state)) = some (8495, .filled)
      ∧ (t.permitSlot .b5).output = false ∧ (t.slot .b5).state = .occupied
      ∧ (t.waitingOf .b5).map (·.command) = [.lamp .flash .off false, .armToggle] := by decide +kernel

/-- 07: the clamp opens at 3,200: STALLED CLAMP, a stall table entry, CLOSE then LAMP queued. -/
theorem test_case_clamp_stall :
    let t := after (.clampChange .b5 .opened) yard
    (t.line? 70002118 1).map (fun l => (l.loaded, l.state, l.cause)) = some (3200, .stalled, some .clamp)
      ∧ t.filling.stallTable.getLast? = some { consignment := 70002118, compartment := 1, permit := 1041, base := 0 }
      ∧ (t.waitingOf .b5).map (·.command) = [.close 1041, .lamp .off .off false, .armToggle]
      ∧ t.attention.bays.look .b5 = 0x0044 := by decide +kernel

/-- 05: terms of 4,814, 4,172 and 7,500 kg; the next amendments give 8,100 and 7,950. -/
theorem test_case_payload :
    (payloadTerm 5800 830, payloadTerm 5600 745, payloadTerm 5000 1500, payloadTerm 5400 1500, payloadTerm 5300 1500)
      = (4814, 4172, 7500, 8100, 7950) ∧ payloadTerm 1 830 = 1 := by decide

/-- 04: plan A fails on APART beside each other, plan B passes with the same pair apart, plan C fails on EXCLUDE. -/
theorem test_case_plan_time :
    let m := mirrored (mirrored yard.store.settings.matrix 1 [.mix, .mix, .mix, .mix, .mix, .mix, .apart, .exclude]) 2
      [.mix, .mix, .mix, .mix, .mix, .mix, .apart, .exclude]
    let caustic := { diesel with group := 6 }
    let bleach := { diesel with group := 7 }
    let s := yard.withStore { yard.store with settings := { yard.store.settings with
      matrix := m, products := (yard.store.settings.products.set 29 caustic).set 32 bleach } }
    s.planTimeTest [planned 1 7 1, planned 2 30 1, planned 3 12 1] = false
      ∧ s.planTimeTest [planned 1 7 1, planned 2 12 1, planned 4 30 1] = true
      ∧ s.planTimeTest [planned 1 7 1, planned 4 33 1] = false := by decide +kernel

/-! ## Witnesses: concrete states and operands that meet every hypothesis of a statement, clause by clause -/

theorem witness_StepRunsTheFrontCommand : waiting.pending = .getClock :: [] ∧ yard.pending = [] := by decide +kernel

theorem witness_CommandsLeaveTheWaitingQueue : exec .clockMinuteTick waiting = .next (after .clockMinuteTick waiting) := rfl

/-- The yard steps; every invariant below is shown of the same state. -/
theorem witness_waiting_steps : step waiting = .next (after .getClock yard) := rfl

theorem witness_StepKeepsTheClockSound : waiting.ClockSound ∧ (after .getClock yard).drivers ≠ [] := by
  unfold State.ClockSound; decide +kernel

theorem witness_StepKeepsFillingSafe : waiting.FillingSafe := by
  intro b
  cases b <;> constructor <;> decide +kernel

theorem witness_StepKeepsAttnFollowingTheFlags : waiting.AttentionSound := by
  have h : waiting.store.settings.MasksSound := by unfold Settings.MasksSound; decide +kernel
  constructor
  · exact ⟨fun _ => .inl ⟨.restarted, by decide +kernel⟩, fun _ => by decide +kernel⟩
  · decide +kernel
  · intro b; cases b <;> decide +kernel
  · exact h
  · intro c hc; cases hc; exact h
  · intro c hc; cases hc

theorem witness_settings_sound : waiting.store.settings.Sound := by
  constructor
  · unfold Limits.Sound; decide +kernel
  · intro b; unfold BaySettings.Sound; cases b <;> decide +kernel
  · unfold Product.Sound; decide +kernel
  · decide +kernel
  · decide +kernel

theorem witness_StepKeepsSettingsSound : waiting.StoreSound := by
  constructor
  · exact witness_settings_sound
  · intro c hc; cases hc; exact witness_settings_sound
  · decide +kernel
  · decide +kernel

theorem witness_registers_sound : waiting.RegistersSound := by
  constructor <;> first | decide +kernel | (unfold Ascending; decide +kernel)

theorem witness_StepKeepsTheRegistersLinked : waiting.LinksSound := by
  constructor
  · exact witness_registers_sound
  · have h : ∀ d ∈ waiting.drivers,
        (d.state = .onSite → d.arrival.isSome = true ∧ d.consignment = none ∧ d.committed = none)
        ∧ (d.state = .assigned → d.arrival.isSome = true ∧ d.consignment.isSome = true ∧ d.committed = none)
        ∧ (d.state = .dispatched → d.arrival = none ∧ d.committed.isSome = true ∧ d.hold = false) := by decide +kernel
    intro d hd
    obtain ⟨h1, h2, h3⟩ := h d hd
    unfold Driver.FieldsSound
    split <;> first | exact h1 ‹_› | exact h2 ‹_› | exact h3 ‹_›
  · decide +kernel
  · decide +kernel
  · decide +kernel
  · intro d hd n hn
    have h : ∀ d ∈ waiting.drivers, d.consignment.all
        (fun n => (waiting.consignment? n).map (·.driver) == some d.card) = true := by decide +kernel
    have := h d hd
    rw [hn] at this
    exact eq_of_beq this
  · decide +kernel

theorem witness_StepKeepsReferenceCounts : waiting.RegistersSound ∧ waiting.CountsSound := by
  refine ⟨witness_registers_sound, fun code h1 h2 => ?_⟩
  have h : ∀ k : Fin 65, 1 ≤ k.val → waiting.refCount k.val = waiting.references k.val := by decide +kernel
  exact h ⟨code, by omega⟩ h1

theorem witness_StepKeepsTheEvaluationQueue : (judging false none).EngineSound := by
  constructor
  · decide +kernel
  · decide +kernel
  · intro e he; cases he; decide +kernel
  · decide +kernel

/-- Bay 5 alone holds a live permit in the yard. -/
theorem witness_one_permit (b : Bay) (p : Permit) (h : (waiting.permitSlot b).permit = some p) : b = .b5 ∧ p = permit := by
  cases b <;> cases h
  exact ⟨rfl, rfl⟩

theorem witness_StepKeepsPermitNumbersApart : waiting.PermitsSound := by
  constructor
  · intro a b p q hp hq _
    rw [(witness_one_permit a p hp).1, (witness_one_permit b q hq).1]
  · intro b p h
    rw [(witness_one_permit b p h).2]; decide +kernel
  · decide +kernel

theorem witness_StepKeepsPermitsBacked : waiting.PermitsBacked := by
  constructor
  · exact witness_StepKeepsTheRegistersLinked
  · intro b p h
    obtain ⟨rfl, rfl⟩ := witness_one_permit b p h
    exact ⟨papers, _, by decide +kernel, by decide +kernel, rfl, by decide +kernel, by decide +kernel⟩
  · intro a b p q hp hq _ _
    rw [(witness_one_permit a p hp).1, (witness_one_permit b q hq).1]

theorem witness_StepKeepsTheBusQueues : waiting.BusSound := by
  constructor
  · intro b; cases b <;> decide +kernel
  · intro b; cases b <;> decide +kernel
  · intro b; cases b <;> decide +kernel
  · intro b; cases b <;> decide +kernel
  · decide +kernel
  · intro t ht; cases ht

theorem witness_StepKeepsTheBusSettled : waiting.BusSettled := by
  refine fun _ => ⟨fun b => ?_, ?_, fun _ b => ?_⟩
  · cases b <;> decide +kernel
  · intro w hw; cases hw
  · cases b <;> decide +kernel

theorem witness_LoadedVolumesNeverFall :
    ∃ s t l m, step s = .next t ∧ s.line? 70002118 1 = some l ∧ l.loaded ≤ 65535 ∧ t.line? 70002118 1 = some m
      ∧ l.loaded < m.loaded :=
  ⟨(held .b5).withPending [.progress .b5 1041 65535 .flowing], _, _, _, rfl, rfl, by decide +kernel, rfl, by decide +kernel⟩

theorem witness_HostCommandsMoveNoLitres :
    ∃ t l m, (Instr.stopBay 5).hostCode = some 0x62 ∧ exec (.stopBay 5) yard = .next t ∧ yard.line? 70002118 1 = some l
      ∧ t.line? 70002118 1 = some m ∧ l.state ≠ m.state :=
  ⟨_, _, _, rfl, rfl, rfl, rfl, by decide +kernel⟩

theorem witness_PermitsComeOnlyFromPassedChecks :
    ∃ t, step (requested.withPending [.evaluationCompletion]) = .next t ∧ (t.permitSlot .b5).permit = some permit
      ∧ (requested.permitSlot .b5).permit = none :=
  ⟨_, rfl, by decide +kernel, by decide +kernel⟩

theorem witness_RefusedCommandsChangeNothing :
    yard.port.executing = false ∧ ([Instr.getBay 0, .getBay 13, .setClock 16777216, .voidConsignment 33].map (fun i =>
      (answer (after i yard)).map (·.1))) = [some .badValue, some .badValue, some .badValue, some .wrongState] := by
  decide +kernel

/-- The refusals of RELEASE and BAY_LAMP, clause by clause at the ends of their ranges. -/
theorem witness_RefusedCommandsChangeNothing_release_and_lamp :
    let u := yard.updateDriver 12 (fun d => { d with hold := true })
    [Instr.release 0, .release 4294967295, .release 1, .release 4294967294, .release 33, .bayLamp 0 0, .bayLamp 13 2,
        .bayLamp 5 3, .bayLamp 1 2, .bayLamp 12 0].map (fun i => (answer (after i yard)).map (·.1))
      = [some .badValue, some .badValue, some .notFound, some .notFound, some .wrongState, some .badValue, some .badValue,
          some .badValue, some .wrongState, some .wrongState]
      ∧ u.consignment? 32 = some finished ∧ u.consignmentHeld 32 = false
      ∧ (u.driver? 12).map (fun d => (d.state, d.hold)) = some (.assigned, true)
      ∧ (answer (after (.release 32) u)).map (·.1) = some .wrongState := by decide +kernel

theorem witness_FramesSpellTheirCommands :
    (Instr.openConsignment openArgs).wellFormed = true ∧ (Instr.openConsignment openArgs).hostCode = some 0x50
      ∧ ((Instr.openConsignment openArgs).payload.map List.length) = some 29 := by decide +kernel

theorem witness_WholeFramesRunTheirCommands :
    (Instr.admitUnit 16777215 1 65535 [⟨65535, 255⟩]).wellFormed = true
      ∧ (Instr.admitUnit 16777215 1 65535 [⟨65535, 255⟩]).payload = some [255, 255, 255, 1, 255, 255, 255, 255, 255] := by
  decide +kernel

theorem witness_BytesGatherIntoAFrame :
    yard.port.executing = false ∧ yard.port.rx = .hunting ∧ (List.replicate 240 (0 : Byte)).length ≤ 240
      ∧ (commandFrame 0x11 []).foldl (fun u x => u.receiveByte x) yard = after .getClock yard := by decide +kernel

theorem witness_ExecutingPortTakesNoCommand :
    executing.port.executing = true ∧ Instr.getClock.hostCode = some 0x11 := by decide +kernel

theorem witness_HardStartsReadTheImage : (awaiting .hard).awaitsReset .hard ∧ yard.port.resetArranged ≠ some .hard
    ∧ (awaiting .hard).store.image.checksumMatches = true := by unfold State.awaitsReset; decide +kernel

theorem witness_SoftResetKeepsClockAndSettings :
    (awaiting .soft).awaitsReset .soft ∧ yard.port.resetArranged ≠ some .soft := by
  unfold State.awaitsReset; decide +kernel

theorem witness_StartsCallEveryEnabledBay :
    (awaiting .soft).startsOn .softReset ∧ (awaiting .soft).startsOn .responseSent ∧ (awaiting .hard).startsOn .hardReset
      ∧ yard.startsOn (.powerOn yard.levels) :=
  ⟨.inr (.inl ⟨witness_SoftResetKeepsClockAndSettings.1, .inl rfl⟩),
    .inr (.inl ⟨witness_SoftResetKeepsClockAndSettings.1, .inr rfl⟩),
    .inr (.inr ⟨witness_HardStartsReadTheImage.1, .inl rfl⟩), .inl ⟨_, rfl⟩⟩

theorem witness_ReadCommandsAnswerFromTheRecords :
    yard.port.executing = false ∧ yard.driver? 11 = some (driver 11) ∧ yard.tanker? 4410 = some lorry
      ∧ yard.consignment? 70002118 = some papers
      ∧ ([Instr.getProduct 1, .getProduct 64, .listDrivers 0, .listDrivers 3].map (fun i =>
          (answer (after i yard)).map (·.1))) = [some .ok, some .ok, some .ok, some .ok] := by decide +kernel

theorem witness_GetLimitsAnswersTheWorkingCopy :
    yard.port.executing = false ∧ answer (after .getLimits yard)
      = some (.ok, [28, 2, 14, 1, 45, 0, 12, 3, 32, 13, 15, 0, 20, 0, 208, 7, 50, 0, 1]) := by decide +kernel

theorem witness_GetSegregationAnswersTheRow :
    yard.port.executing = false ∧ answer (after (.getSegregation 15) yard) = some (.ok, List.replicate 16 0)
      ∧ answer (after (.getSegregation 16) yard) = some (.badValue, []) := by decide +kernel

theorem witness_ClockIsSetAndCounts :
    yard.port.executing = false ∧ yard.clock.unset = false ∧ State.reset.clock.unset = true
      ∧ (answer (after (.setClock 16777216) yard)).map (·.1) = some .badValue
      ∧ (answer (after (.setClock 612003) yard)).map (·.1) = some .wrongState
      ∧ (after (.setClock 16777215) yard).clock.minute = 16777215
      ∧ (after .clockMinuteTick (after (.setClock 16777215) yard)).clock.minute = 16777215 := by decide +kernel

theorem witness_LimitsAreClampedUnlessSaving :
    yard.port.executing = false ∧ yard.store.save = .idle ∧ (saving .erasing false).store.save ≠ .idle
      ∧ (answer (after (.setLimits limitsArgs) yard)).map (·.1) = some .ok
      ∧ (answer (after (.setLimits { limitsArgs with dDay := 59 }) yard)).map (·.1) = some .clamped
      ∧ (after (.setLimits { limitsArgs with dDay := 59 }) yard).store.settings.limits.dDay = 60
      ∧ (after (.setLimits { limitsArgs with tolerance := 501 }) yard).store.settings.limits.tolerance = 500
      ∧ [Instr.setProduct 64 { productArgs with un := 3600, density := 2000 }, .setProduct 1 { productArgs with defined := 0 },
          .setSegregation 15 (List.replicate 16 0)].map (fun i => (answer (after i (saving .verifying true))).map (·.1))
          = [some .busy, some .busy, some .busy] := by decide +kernel

theorem witness_SetBayStoresTheSettings :
    yard.port.executing = false ∧ yard.store.save = .idle ∧ (yard.permitSlot .b5).permit.isSome = true
      ∧ (yard.settingsOf .b5).enabled = true
      ∧ (answer (after (.setBay 5 { bayArgs with allowance := 400 }) yard)).map (·.1) = some .ok
      ∧ ((after (.setBay 5 { bayArgs with allowance := 400 }) yard).settingsOf .b5).allowance = 120
      ∧ (answer (after (.setBay 6 { bayArgs with allowance := 401 }) yard)).map (·.1) = some .clamped
      ∧ ((after (.setBay 5 { bayArgs with enabled := 0 }) yard).slot .b5).state = .offline := by decide +kernel

/-- A bay enabled again with room in its queue and without; a joined station whose flow changes, and one whose settings the
command leaves as they are. -/
theorem witness_SetBayStoresTheSettings_queue :
    let off := after .responseSent (after (.setBay 6 { bayArgs with enabled := 0 }) yard)
    let full := off.withBus { off.bus with outbound := List.replicate 4 { bay := .b6, command := .armToggle } }
    (off.settingsOf .b6).enabled = false ∧ (off.waitingOf .b6).length < 4 ∧ off.port.executing = false
      ∧ off.store.save = .idle ∧ (after (.setBay 6 bayArgs) off).toStation .b6 = off.toStation .b6 ++ [.joinCall]
      ∧ (after (.setBay 6 bayArgs) full).gantryFlag .queueFull = true
      ∧ (yard.slot .b5).link = .up ∧ (after (.setBay 5 { bayArgs with flow := 1900 }) yard).toStation .b5 = [.limits 1900 120 600]
      ∧ (after (.setBay 5 bayArgs) yard).toStation .b5 = [] := by decide +kernel

theorem witness_SetBayStoresTheSettings_order : waiting.BaySafe .b5 := witness_StepKeepsFillingSafe .b5

theorem witness_ProductDataIsWrittenAndFrozen :
    yard.port.executing = false ∧ yard.store.save = .idle ∧ packingOf? productArgs.packing = some .iii
      ∧ yard.refCount 64 = 0 ∧ yard.refCount 7 ≠ 0 ∧ yard.refCount 1 = 0
      ∧ relationsOf? (List.replicate 16 0) = some (List.replicate 16 .mix)
      ∧ (List.replicate 16 Relation.mix)[15]? = some .mix ∧ State.reset.consignments = [] ∧ yard.consignments ≠ []
      ∧ [Instr.setProduct 64 productArgs, .setProduct 1 { productArgs with un := 3600, density := 2000 },
          .setProduct 7 productArgs, .setSegregation 15 (List.replicate 16 0)].map (fun i =>
            (answer (after i yard)).map (·.1)) = [some .ok, some .ok, some .inUse, some .inUse] := by decide +kernel

theorem witness_SavesPassThroughTheirStages :
    yard.port.executing = false ∧ yard.store.save = .idle ∧ (saving .erasing false).store.save = .erasing
      ∧ (saving .writing false).store.save = .writing ∧ (saving .verifying true).store.save = .verifying
      ∧ (saving .verifying true).store.image.checksumMatches = true := by decide +kernel

theorem witness_AdmissionCreatesTheDriver :
    let a := { driverArgs with accounts := ⟨1440, 1440, 1440, 10080⟩, licenceUntil := 65535, endorsementUntil := 65535,
                               classes := 0x03FE }
    yard.port.executing = false ∧ yard.clock.unset = false ∧ a.classes &&& ~~~0x03FE = 0 ∧ a.tank ≤ 1
      ∧ yard.driver? 4294967294 = none ∧ yard.drivers.length < 96
      ∧ (answer (after (.admitDriver 4294967294 a) yard)).map (·.1) = some .ok
      ∧ (answer (after (.admitDriver 4294967295 a) yard)).map (·.1) = some .badValue := by decide +kernel

theorem witness_SummariesActByTheDriversState :
    yard.port.executing = false ∧ yard.clock.unset = false ∧ yard.driverHeld 11 = false
      ∧ (yard.driver? 11).map (·.state) = some .onSite
      ∧ (yard.driver? 40117203).map (fun d => (d.state, d.consignment)) = some (.assigned, some 70002118)
      ∧ yard.consignment? 70002118 = some papers
      ∧ (yard.driver? 13).map (fun d => (d.state, d.consignment)) = some (.dispatched, none)
      ∧ (yard.driver? 14).map (fun d => (d.state, d.consignment)) = some (.dispatched, some 33)
      ∧ [11, 40117203, 13, 14].map (fun k => (answer (after (.updateSummary k ⟨1440, 1440, 1440, 10080⟩) yard)).map (·.1))
          = [some .ok, some .ok, some .ok, some .wrongState] := by decide +kernel

theorem witness_HoldsAndRetirementActOnOneDriver :
    yard.port.executing = false ∧ yard.driverHeld 11 = false ∧ (yard.driver? 11).map (·.state) = some .onSite
      ∧ yard.driverHeld 13 = false ∧ (yard.driver? 13).map (fun d => (d.state, d.consignment)) = some (.dispatched, none)
      ∧ yard.driverHeld 12 = false ∧ (yard.driver? 12).map (·.state) = some .assigned
      ∧ (yard.driver? 14).map (fun d => (d.state, d.consignment)) = some (.dispatched, some 33) := by decide +kernel

theorem witness_ProjectChecksThenStores :
    yard.port.executing = false
      ∧ [Instr.project 11 round ⟨0, 0⟩, .project 0 round ⟨0, 0⟩, .project 4294967295 round ⟨0, 0⟩,
          .project 11 { round with drive := 901, duty := 1440 } ⟨0, 0⟩, .project 11 { round with duty := 239 } ⟨0, 0⟩,
          .project 11 { round with longestLeg := 241 } ⟨0, 0⟩, .project 11 round ⟨1, 0⟩, .project 11 round ⟨1, 4294967295⟩,
          .project 99 round ⟨0, 0⟩, .project 11 round ⟨1, 99⟩, .project 13 round ⟨0, 0⟩, .project 11 round ⟨1, 70002118⟩].map
          (fun i => (answer (after i yard)).map (·.1))
        = [some .ok, some .badValue, some .badValue, some .badValue, some .badValue, some .badValue, some .badValue,
            some .badValue, some .notFound, some .notFound, some .wrongState, some .ok]
      ∧ (answer (after (.project 11 round ⟨0, 0⟩) State.reset)).map (·.1) = some .clockUnset
      ∧ (judging false none).driverHeld 40117203 = true
      ∧ (answer (after (.project 40117203 round ⟨1, 70002118⟩) (judging false none))).map (·.1) = some .busy := by
  decide +kernel

theorem witness_HeldRecordsAnswerBusy :
    let s := judging false none
    s.port.executing = false ∧ s.clock.unset = false ∧ (s.driver? 40117203).isSome = true ∧ s.driverHeld 40117203 = true
      ∧ s.tanker? 4410 = some lorry ∧ s.tankerHeld 4410 = true ∧ (s.consignment? 70002118).isSome = true
      ∧ s.consignmentHeld 70002118 = true ∧ (s.line? 70002118 2).isSome = true
      ∧ [Instr.markClean 4410 4, .amendLine 70002118 2 20000, .updateSummary 40117203 ⟨1440, 1440, 1440, 10080⟩].map
          (fun i => (answer (after i s)).map (·.1)) = [some .busy, some .busy, some .busy]
      ∧ (answer (after (.release 70002118) (s.updateConsignment 70002118 (fun c => { c with state := .complete })))).map
          (·.1) = some .busy := by decide +kernel

theorem witness_HeldRecordsAnswerBusy_opening :
    let s := judging false none
    let held := { openArgs with tanker := 4410 }
    let held' := { openArgs with card := 40117203 }
    OpenFormSound held ∧ OpenFormSound held' ∧ s.consignment? openArgs.number = none ∧ s.consignments.length < 32
      ∧ (s.tanker? 21).map (·.state) = some .idle ∧ s.tankerHeld 21 = false
      ∧ [Instr.openConsignment held, .openConsignment held'].map (fun i => (answer (after i s)).map (·.1))
          = [some .busy, some .busy] := by
  refine ⟨?_, ?_, by decide +kernel⟩ <;> constructor <;> decide +kernel

theorem witness_SlacksFollowTheAccounts :
    yard.store.settings.limits.dDay = 540 ∧ (driver 11).accounts.driveDay ≤ 1440
      ∧ (driver 11).accounts.drivePeriod ≤ 10080 ∧ 1 ≤ round.drive ∧ round.drive ≤ round.duty := by decide +kernel

theorem witness_limits_sound : yard.store.settings.limits.Sound := witness_settings_sound.limits

theorem witness_UnitCommandsActOnOneUnit :
    yard.port.executing = false ∧ yard.tanker? 16777215 = none ∧ yard.tankers.length < 32
      ∧ (yard.product 7).defined = true ∧ (yard.tanker? 21).map (fun u => (u.state, u.bay)) = some (.idle, none)
      ∧ yard.tankerHeld 21 = false ∧ (yard.tanker? 23).map (fun u => (u.state, u.bay)) = some (.released, none)
      ∧ yard.consignmentOf? 23 = some gone
      ∧ (∀ con ∈ yard.consignments, con.tanker = 21 → ∀ l ∈ con.lines, l.compartment = 1 → l.loaded = 0)
      ∧ [Instr.admitUnit 16777215 1 1000 [⟨500, 7⟩], .admitUnit 1 1 60000 [⟨20000, 0⟩], .markClean 21 1, .markClean 21 4,
          .retireUnit 21, .retireUnit 23].map (fun i => (answer (after i yard)).map (·.1))
          = [some .ok, some .ok, some .ok, some .ok, some .ok, some .ok] := by decide +kernel

theorem witness_OpeningAssignsUnitAndDriver :
    (openArgs.lines.map (·.compartment)).Nodup ∧ yard.consignment? openArgs.number = none
      ∧ yard.consignments.length < 32 ∧ (yard.tanker? 21).map (·.state) = some .idle ∧ yard.tankerHeld 21 = false
      ∧ yard.driver? 11 = some (driver 11) ∧ yard.driverHeld 11 = false
      ∧ answer (after (.openConsignment openArgs) yard) = some (.ok, [0xD7, 0x32, 0x00])
      ∧ (answer (after (.openConsignment { openArgs with number := 4294967294 }) yard)).map (·.1) = some .ok := by
  decide +kernel

theorem witness_LineCommandsActOnOneLine :
    yard.port.executing = false ∧ yard.consignment? 70002118 = some papers ∧ yard.consignmentHeld 70002118 = false
      ∧ papers.line? 2 = some (planned 2 12 8000) ∧ (papers.line? 3).map (·.state) = some .stalled
      ∧ (papers.line? 1).map (·.state) = some .filling ∧ yard.capacity 4410 2 = 8500
      ∧ [Instr.amendLine 70002118 2 8500, .amendLine 70002118 2 1, .cancelLine 70002118 2, .cancelLine 70002118 1,
          .closeShort 70002118 3, .closeShort 70002118 2].map (fun i => (answer (after i yard)).map (·.1))
          = [some .ok, some .ok, some .ok, some .wrongState, some .ok, some .wrongState]
      ∧ (answer (after (.amendLine 70002118 2 8500) (yard.updateTanker 4410 (fun t => { t with maxPayload := 1000 })))).map
          (·.1) = some .overload := by decide +kernel

theorem witness_VoidReturnsUnitAndDriver :
    let s := yard.updateConsignment 32 (fun c => { c with lines := [planned 1 7 4000] })
    s.port.executing = false ∧ (s.consignment? 32).map (·.state) = some .complete ∧ s.consignmentHeld 32 = false
      ∧ (answer (after (.voidConsignment 32) s)).map (·.1) = some .ok
      ∧ yard.consignment? 70002118 = some papers ∧ (∃ l ∈ papers.lines, 0 < l.loaded ∨ l.state = .authorised ∨ l.state = .filling)
      ∧ (answer (after (.voidConsignment 70002118) yard)).map (·.1) = some .inUse := by decide +kernel

theorem witness_ReleaseFixesPapersAndDispatches :
    let rested := yard.updateDriver 12 (fun d => { d with accounts := ⟨210, 0, 265, 2900⟩ })
    yard.port.executing = false ∧ yard.consignment? 32 = some finished ∧ finished.state = .complete
      ∧ yard.consignmentHeld 32 = false ∧ (yard.driver? 12).map (fun d => (d.state, d.hold)) = some (.assigned, false)
      ∧ (yard.tanker? 22).isSome = true ∧ (finished.lines.map (·.compartment)).Nodup
      ∧ (answer (after (.release 32) rested)).map (·.1) = some .ok
      ∧ (answer (after (.release 32) yard)).map (·.1) = some .hours
      ∧ (answer (after (.release 32) (rested.updateDriver 12 (fun d => { d with licenceUntil := 424 })))).map (·.1)
          = some .expired
      ∧ (answer (after (.release 32) (rested.updateTanker 22 (fun t => { t with maxPayload := 3319 })))).map (·.1)
          = some .overload
      ∧ (answer (after (.release 32) (rested.updateTanker 22 (fun t => { t with maxPayload := 3320 })))).map (·.1)
          = some .ok := by decide +kernel

theorem witness_hears : (held .b5).hears .b5 ∧ (held .b6).hears .b6 ∧ (held .b7).hears .b7 ∧ (held .b1).holds .b1 := by
  unfold State.hears State.holds; decide +kernel

theorem witness_RequestsQueueAndEvaluationsBegin :
    (∀ e ∈ (held .b5).engine.queue, e.bay ≠ .b5) ∧ (held .b5).engine.evaluation = none
      ∧ (after (.loadRequest .b5 8) (held .b5)).engine.queue = [⟨.b5, 8⟩]
      ∧ (∃ e ∈ (judging false none).engine.queue, e.bay = .b5)
      ∧ (judging true none).engine.evaluation.map (·.dropped) = some true := by decide +kernel

theorem witness_RequestsQueueAndEvaluationsBegin_pending :
    let s := (judging false none).withBus (held .b5).bus
    s.hears .b5 ∧ ((after (.loadRequest .b5 0) s).slot .b5).lastRefusal = some ⟨0, .pending⟩ := by
  unfold State.hears State.holds; decide +kernel

theorem witness_CompletionFollowsTheCheckTable :
    let s := judging false (some 40117203)
    (judging false none).engine.evaluation.map (·.dropped) = some false
      ∧ firstFailing ((judging false none).checkTable .b5 3) = some .driverMismatch
      ∧ firstFailing (s.checkTable .b5 3) = none ∧ s.judgedTanker? .b5 = some lorry
      ∧ (s.judgedConsignment? .b5).bind (fun c => s.consignment? c.number) = s.judgedConsignment? .b5
      ∧ (s.judgedLine? .b5 3).isSome = true ∧ (s.judgedDriver? .b5).isSome = true
      ∧ (s.judgedProjection? .b5).isSome = true
      ∧ (after .evaluationCompletion s).toStation .b5
          = [.permit 1042 3 12 7780 7180] := by decide +kernel

/-- Bay 6 holds the number in the counter and bay 7 the one after it, and bay 6 has a request waiting behind bay 5's. -/
theorem witness_CompletionFollowsTheCheckTable_numbers :
    let s := judging false (some 40117203)
    let live (n : Nat) : PermitSlot := { PermitSlot.empty with permit := some { permit with number := n } }
    let s := (s.setPermitSlot .b6 (live 65535)).setPermitSlot .b7 (live 1)
    let s := s.withEngine { s.engine with counter := 65535, queue := s.engine.queue ++ [⟨.b6, 2⟩] }
    let t := after .evaluationCompletion s
    firstFailing (s.checkTable .b5 3) = none ∧ (t.permitSlot .b5).permit.map (·.number) = some 2 ∧ t.engine.counter = 3
      ∧ t.engine.evaluation = some { bay := .b6, compartment := 2, dropped := false, heldTanker := some 24,
                                     heldConsignment := none, heldDriver := none } := by decide +kernel

theorem witness_ReportsRaiseTheLoadedVolume :
    (held .b5).capacity 4410 1 = 9000 ∧ ((held .b5).permitSlot .b5).permit = some permit
      ∧ (held .b5).line? 70002118 1 = papers.line? 1 ∧ (papers.line? 1).isSome = true
      ∧ (held .b5).lateEntry .b5 1040 = some { consignment := 70002118, compartment := 3, permit := 1040, base := 0 }
      ∧ (papers.line? 3).isSome = true ∧ (held .b5).lateEntry .b5 1039 = none
      ∧ [8500, 8550, 8551, 9000, 9001, 65535].map (fun m =>
          ((after (.progress .b5 1041 m .flowing) (held .b5)).line? 70002118 1).map (·.state))
          = [some .filling, some .filling, some .filled, some .filled, some .stalled, some .stalled]
      ∧ [8050, 8051, 8500, 8501, 65535].map (fun m =>
          ((after (.progress .b5 1040 m .flowing) (held .b5)).attention.bays.look .b5))
          = [0x0000, 0x0008, 0x0008, 0x0010, 0x0010] := by decide +kernel

/-- R42 and R75: a first litre on line 2 sets drained to no, and the last line filled completes the consignment. -/
theorem witness_first_litre_and_last_line :
    let last := papers.mapLine 3 (fun l => { l with state := .filled })
    let last := last.mapLine 2 (fun l => { l with state := .cancelled })
    let s := ((held .b5).setDrained 4410 1 true).withConsignments [finished, gone, last]
    let dry := s.updateLine 70002118 1 (fun l => { l with loaded := 0 })
    let drained (t : State) : Option Bool := ((t.tanker? 4410).bind (·.compartment? 1)).map (·.drained)
    drained dry = some true ∧ drained (after (.progress .b5 1041 1 .flowing) dry) = some false
      ∧ drained (after (.progress .b5 1041 0 .flowing) dry) = some true
      ∧ drained (after (.progress .b5 1041 9000 .flowing) s) = some true
      ∧ ((after (.progress .b5 1041 8551 .flowing) s).consignment? 70002118).map (·.state) = some .complete
      ∧ ((after (.finish .b5 1041 8450) s).consignment? 70002118).map (·.state) = some .complete
      ∧ ((after (.finish .b5 1041 8449) s).consignment? 70002118).map (·.state) = some .opened := by decide +kernel

theorem witness_FinishDecidesTheLinesEnd :
    [8449, 8450, 8550, 8551, 9000, 9001, 65535].map (fun f =>
        ((after (.finish .b5 1041 f) (held .b5)).line? 70002118 1).map (fun l => (l.state, l.cause)))
      = [some (.stalled, some .shortFinish), some (.filled, none), some (.filled, none), some (.filled, none),
          some (.filled, none), some (.stalled, some .overfill), some (.stalled, some .overfill)]
      ∧ ((after (.finish .b5 1041 8551) (held .b5)).attention.bays.look .b5) = 0x000C
      ∧ ((held .b5).permitSlot .b5).permit = some permit ∧ permit.number ≠ 1042 := by decide +kernel

theorem witness_StallingEventsEndThePermit :
    ((held .b5).permitSlot .b5).permit = some permit ∧ ((held .b5).line? permit.consignment permit.line).isSome = true
      ∧ ([(.progressTimeout .b5, .timeout), (.stop .b5, .stopButton), (.meterFault .b5, .meterFault), (.stopBay 5, .hostStop),
          (.clampChange .b5 .opened, .clamp), (.probeChange .b5 .tripped, .probe), (.vehicleAbsent .b5, .vehicleLeft),
          (.vehiclePresent .b5 21, .vehicleLeft), (.stationLost .b5, .station), (.hello .b5, .station),
          (.setBay 5 { bayArgs with enabled := 0 }, .station), (.bayReset 5, .bayReset), (.esdAssertion, .esd),
          (.progress .b5 1041 9001 .flowing, .overfill)] : List (Instr × Cause)).all (fun x =>
            ((after x.1 (held .b5)).line? 70002118 1).bind (·.cause) == some x.2) = true := by decide +kernel

theorem witness_hears_b5 : (held .b5).hears .b5 := by unfold State.hears State.holds; decide +kernel

/-- Each event of the table of R115 can happen in the yard with bay 5 holding the bus. -/
theorem witness_StallingEventsEndThePermit_each :
    let stalls := StallingEvent (held .b5) .b5 permit
    stalls (.progressTimeout .b5) .timeout ∧ stalls (.stop .b5) .stopButton ∧ stalls (.meterFault .b5) .meterFault
      ∧ stalls (.stopBay 5) .hostStop ∧ stalls (.clampChange .b5 .opened) .clamp
      ∧ stalls (.probeChange .b5 .tripped) .probe ∧ stalls (.vehicleAbsent .b5) .vehicleLeft
      ∧ stalls (.vehiclePresent .b5 16777215) .vehicleLeft ∧ stalls (.stationLost .b5) .station
      ∧ stalls (.hello .b5) .station ∧ stalls (.setBay 5 { bayArgs with enabled := 0 }) .station
      ∧ stalls (.bayReset 5) .bayReset ∧ stalls .esdAssertion .esd
      ∧ stalls (.progress .b5 1041 9001 .flowing) .overfill :=
  ⟨.timeout (by decide +kernel), .stopButton witness_hears_b5, .meterFault witness_hears_b5,
    .hostStop (by decide +kernel), .clamp (by decide +kernel), .probe (by decide +kernel),
    .departure witness_hears_b5 (by decide +kernel),
    .otherTag _ witness_hears_b5 (by decide +kernel) (by decide) (by intro x hx; cases hx; decide),
    .stationLost (by decide +kernel) (by decide +kernel), .restart witness_hears_b5 (by decide +kernel) (by decide +kernel),
    .disabled _ (by decide +kernel) (by decide +kernel) (by decide +kernel) rfl (by decide +kernel),
    .bayReset (by decide +kernel) (by decide +kernel) (by decide +kernel),
    .esd (by decide +kernel) (fun a q h hq => absurd (witness_one_permit a q hq).1 h),
    .overfill 9001 .flowing papers witness_hears_b5 (by decide) (by decide) (by decide +kernel) (by decide +kernel)⟩

theorem witness_InputsAreFollowed :
    yard.filling.esd = false ∧ (after .esdAssertion yard).filling.esd = true ∧ (yard.slot .b5).clamp ≠ .opened
      ∧ (yard.slot .b1).clamp ≠ .closed ∧ (yard.slot .b5).probe ≠ .tripped
      ∧ ((after (.probeChange .b5 .tripped) yard).slot .b5).probe ≠ .healthy := by decide +kernel

theorem witness_StationsJoinAndVehiclesMove :
    ((held .b1).settingsOf .b1).enabled = true ∧ ((held .b1).slot .b1).link = .offline
      ∧ ((held .b7).slot .b7).link = .up ∧ ((held .b7).slot .b7).state = .vacant
      ∧ ((held .b7).tanker? 21).map (·.bay) = some none ∧ ((held .b7).tanker? 4410).map (·.bay) = some (some .b5)
      ∧ (held .b7).tanker? 16777215 = none ∧ (held .b7).tanker? 0 = none
      ∧ ((held .b6).slot .b6).link = .up ∧ ((held .b6).slot .b6).state = .occupied
      ∧ ((held .b6).permitSlot .b6).permit = none
      ∧ (after (.setBay 1 { bayArgs with enabled := 0 }) (held .b1)).bus.grant = (held .b1).bus.grant
      ∧ ((after (.setBay 1 { bayArgs with enabled := 0 }) (held .b1)).settingsOf .b1).enabled = false := by decide +kernel

/-- A HELLO from an OFFLINE bay and from one that is UP; a vehicle reported again, known and not known, and another one. -/
theorem witness_StationsJoinAndVehiclesMove_again :
    let stranger := (held .b6).updateSlot .b6 (fun x => { x with present := some ⟨99, false⟩ })
    (held .b1).waitingOf .b1 = [] ∧ (after (.hello .b1) (held .b1)).toStation .b1 = [.limits 1500 100 500, .lamp .off .off false]
      ∧ ((held .b5).slot .b5).link = .up ∧ ((held .b5).slot .b5).state = .loading
      ∧ (after (.hello .b5) (held .b5)).toStation .b5 = [.limits 1800 120 600, .lamp .off .off false]
      ∧ ((held .b6).slot .b6).present = some ⟨24, true⟩
      ∧ after (.vehiclePresent .b6 24) (held .b6) = (yard.withBus { yard.bus with grant := none }).pick
      ∧ (stranger.slot .b6).present = some ⟨99, false⟩ ∧ (stranger.slot .b6).state = .occupied
      ∧ ((after (.vehiclePresent .b6 99) stranger).slot .b6).lastRefusal = some ⟨0, .unknownUnit⟩
      ∧ ((after (.vehiclePresent .b6 16777215) (held .b6)).slot .b6).present = some ⟨16777215, false⟩
      ∧ ((after (.vehiclePresent .b6 16777215) (held .b6)).tanker? 24).map (·.bay) = some none := by decide +kernel

theorem witness_CardsDrainsAndCalls :
    (held .b6).driver? 11 = some (driver 11) ∧ ((held .b6).driver? 13).map (·.state) = some .dispatched
      ∧ (held .b6).driver? 4294967295 = none ∧ ((held .b6).slot .b6).present = some ⟨24, true⟩
      ∧ ((held .b6).tankerAt? .b6).map (fun u => (u.number, u.state, (u.compartment? 4).isSome)) = some (24, .idle, true)
      ∧ (held .b6).loadedOn 24 4 = false ∧ ((held .b5).tankerAt? .b5) = some lorry
      ∧ (lorry.compartment? 1).isSome = true ∧ (held .b5).loadedOn 4410 1 = true := by decide +kernel

theorem witness_BaysAreLitResetAndLost :
    let full := yard.withBus { yard.bus with outbound := List.replicate 4 { bay := .b5, command := .armToggle } }
    yard.port.executing = false ∧ callOf? 2 = some .flash ∧ (yard.slot .b5).state ≠ .offline
      ∧ (yard.waitingOf .b5).length < 4 ∧ 4 ≤ (full.waitingOf .b5).length ∧ full.lampWaits .b5 = false
      ∧ (yard.settingsOf .b5).enabled = true ∧ (yard.bus.outstanding.look .b5).isSome = true
      ∧ (answer (after (.bayLamp 5 2) yard)).map (·.1) = some .ok
      ∧ (answer (after (.bayLamp 5 2) full)).map (·.1) = some .full
      ∧ (yard.slot .b1).state = .offline ∧ (yard.settingsOf .b1).enabled = true
      ∧ [.b1, .b5].map (fun b => (after (.bayReset b.num) yard).toStation b) = [[.joinCall], [.joinCall]]
      ∧ (after (.stationLost .b5) yard).toStation .b5 = [] := by decide +kernel

theorem witness_PickTakesTheFirstThatApplies :
    let bus := yard.bus
    let urgent := yard.withBus { bus with urgent := bus.urgent.put .b7 true }
    let sending := yard.withBus { bus with outbound := [⟨.b5, .armToggle⟩, ⟨.b6, .armToggle⟩] }
    let routine := yard.withBus { bus with routine := (bus.routine.put .b6 true).put .b7 true, served := bus.served.put .b6 true }
    urgent.busFree = true ∧ sending.busFree = true ∧ routine.busFree = true
      ∧ urgent.pick.bus.grant.map (·.bay) = some .b7 ∧ sending.pick.bus.transmission.map (·.bay) = some .b6
      ∧ routine.pick.bus.grant.map (·.bay) = some .b7 ∧ (routine.bus.outstanding.look .b5).isSome = true := by decide +kernel

theorem witness_BusEventsMoveTheBus :
    let granted := yard.withBus { yard.bus with grant := some { bay := .b6, cls := .urgent, phase := .granted, timer := 20 } }
    let sent := yard.withBus { yard.bus with
      transmission := some { bay := .b6, command := .armToggle, number := some 255, forgotten := false } }
    (yard.settingsOf .b6).enabled = true ∧ (granted.bus.grant.map (·.phase)) = some .granted
      ∧ ((held .b5).bus.grant.map (·.phase)) = some .held
      ∧ (sent.bus.transmission.map (fun x => (x.forgotten, x.number))) = some (false, some 255)
      ∧ ((held .b5).bus.outstanding.look .b5).map (·.number) = some 255
      ∧ ((after (.ack .b5 255 .engaged) (held .b5)).attention.bays.look .b5) = 0x0800
      ∧ ((after (.ack .b5 0 .engaged) (held .b5)).bus.outstanding.look .b5).isSome = true
      ∧ ((held .b5).slot .b5).lockDesired = .engaged ∧ ((held .b5).waitingOf .b5).length < 4
      ∧ (after (.ack .b5 255 .unknown) (held .b5)).toStation .b5 = [.armToggle]
      ∧ (after .grantExpiry granted).bus.grant = none ∧ (after .grantExpiry granted).gantryFlag .grantExpired = true
      ∧ (after .holdExpiry (held .b5)).bus.grant = none
      ∧ State.reset.bus.transmission.map (·.number) = some none := by decide +kernel

theorem witness_PortReceivesChecksAndAnswers :
    yard.port.executing = false ∧ yard.port.rx = .hunting ∧ executing.port.executing = true
      ∧ executing.port.sending = [{ code := 0x11, result := .ok, payload := [] }]
      ∧ (after .frameMark yard).port.rx = .receiving ∧ (0x9B : BitVec 16) ≠ frameSum 0x10 []
      ∧ (answer (after (.length 0x11 240) yard)) = none ∧ (answer (after (.length 0x11 241) yard)) = some (.length, [])
      ∧ (answer (after (.unknownCommand 0x99 [] (frameSum 0x99 [])) yard)) = some (.unknownCommand, [])
      ∧ [([] : List Byte), [0, 0, 0], [1, 0, 0, 2, 0, 0], [1, 0, 0, 255, 0, 0, 0, 0, 0]].map (fun p =>
          answer (after (.unknownCommand 0x40 p (frameSum 0x40 p)) yard))
          = [some (.length, []), some (.length, []), some (.length, []), some (.length, [])]
      ∧ requiredLength 0x40 [1, 0, 0, 2, 0, 0] = some 12
      ∧ [(2 : Byte), 255].map (fun k => answer (after (.unknownCommand 0x02 [k] (frameSum 0x02 [k])) yard))
          = [some (.badValue, []), some (.badValue, [])]
      ∧ executing.port.resetArranged = none ∧ (awaiting .soft).port.sending.length = 1
      ∧ (after .responseSent (awaiting .soft)) = after .softReset (awaiting .soft)
      ∧ (after .responseSent (awaiting .hard)) = after .hardReset (awaiting .hard) := by decide +kernel

theorem witness_PortReceivesChecksAndAnswers_two :
    (after (.length 0x10 241) executing).port.overrun = true
      ∧ (after .getClock (after (.length 0x10 241) yard)).port.sending.map (·.result) = [.length, .ok]
      ∧ (after .responseSent (after .getClock (after (.length 0x10 241) yard))).port.executing = true := by decide +kernel

theorem witness_PortReceivesChecksAndAnswers_code (i : Instr) : i.hostCode ≠ some 0x99 := by
  cases i <;> simp [Instr.hostCode]

theorem witness_AcknowledgesClearAndMasksEnable :
    yard.port.executing = false ∧ yard.store.save = .idle
      ∧ answer (after (.ackAttention 0 0xFFFF) yard) = some (.ok, [0, 0])
      ∧ (after (.ackAttention 0 0x0001) yard).attention.attn = false
      ∧ answer (after (.ackAttention 12 0) yard) = some (.ok, [0, 0])
      ∧ answer (after (.ackAttention 13 0) yard) = some (.badValue, [])
      ∧ answer (after (.setAttentionEnable 0x0FFF 0x01FF) yard) = some (.ok, [0xFF, 0x0F, 0xFF, 0x01])
      ∧ answer (after (.setAttentionEnable 0x1FFF 0x01FF) yard) = some (.clamped, [0xFF, 0x0F, 0xFF, 0x01]) := by
  decide +kernel

end Sys2Proof.Tests
end

section
/-! SUPPORT. The Settings Store (12) as a frame: the operations of every other block leave it as it was, one lemma an
operation, so that the commands which write it (R20, R53, R58, R135, R175 to R178) stand out. -/

namespace Sys2Proof.Machine

/-! ## Shared operations -/

/-- An operation repeated over a list leaves the store when each run of it does. -/
theorem foldl_store {α : Type} {f : State → α → State} (hf : ∀ s a, (f s a).store = s.store) (xs : List α) (s : State) :
    (xs.foldl f s).store = s.store := by
  induction xs generalizing s with
  | nil => rfl
  | cons a as ih => rw [List.foldl_cons, ih, hf]

@[simp] theorem State.countUpAll_store (s : State) (codes : List Nat) : (s.countUpAll codes).store = s.store :=
  foldl_store (fun _ _ => State.countUp_store ..) _ _

@[simp] theorem State.countDownAll_store (s : State) (codes : List Nat) : (s.countDownAll codes).store = s.store :=
  foldl_store (fun _ _ => State.countDown_store ..) _ _

/-- A message leaves the store when its delivery does. -/
theorem State.message_store (s : State) (b : Bay) (inRange hello : Bool) {deliver : State → State}
    (hd : ∀ u : State, (deliver u).store = u.store) : (s.message b inRange hello deliver).store = s.store := by
  rcases s.message_cases b inRange hello deliver with h | ⟨_, h⟩ <;> rw [h]
  rw [State.pick_store]
  split
  · exact hd _
  · rfl

/-! ## Drivers -/

@[simp] theorem State.storeProjection_store (s : State) (card : Nat) (p : Projection) :
    (s.storeProjection card p).store = s.store := by simp [State.storeProjection]

@[simp] theorem State.raiseHours_store (s : State) (v : Verdict) : (s.raiseHours v).store = s.store := by
  cases v <;> simp [State.raiseHours]

@[simp] theorem State.clearCard_store (s : State) (card : Nat) : (s.clearCard card).store = s.store :=
  foldl_store (fun _ _ => by split <;> simp) _ _

/-! ## Units and consignments -/

@[simp] theorem State.cleanCompartment_store (s : State) (t : Tanker) (c : Nat) :
    (s.cleanCompartment t c).store = s.store := by
  simp only [State.cleanCompartment]; split <;> simp

@[simp] theorem State.gateOut_store (s : State) (c : Consignment) : (s.gateOut c).store = s.store := by
  simp [State.gateOut]

@[simp] theorem State.openEffects_store (s : State) (c : Consignment) : (s.openEffects c).store = s.store := by
  simp [State.openEffects]

@[simp] theorem State.voidEffects_store (s : State) (c : Consignment) : (s.voidEffects c).store = s.store := by
  simp [State.voidEffects]

@[simp] theorem State.markAboard_store (s : State) (tanker : Nat) (l : Line) : (s.markAboard tanker l).store = s.store := by
  simp only [State.markAboard]; (repeat' split) <;> simp

@[simp] theorem State.releaseTanker_store (s : State) (c : Consignment) : (s.releaseTanker c).store = s.store := by
  rw [State.releaseTanker, State.updateTanker_store]
  exact foldl_store (fun _ _ => State.markAboard_store ..) _ _

@[simp] theorem State.releaseEffects_store (s : State) (c : Consignment) : (s.releaseEffects c).store = s.store := by
  simp [State.releaseEffects]

/-! ## The engine -/

@[simp] theorem State.issue_store (s : State) (b : Bay) (j : Subject) (p : Permit) : (s.issue b j p).store = s.store := by
  simp [State.issue]

@[simp] theorem State.authorise_store (s : State) (b : Bay) (c : Nat) (j : Subject) (p : Projection) :
    (s.authorise b c j p).store = s.store := by
  simp only [State.authorise]; (repeat' split) <;> simp

@[simp] theorem State.judge_store (s : State) (b : Bay) (c : Nat) : (s.judge b c).store = s.store := by
  simp only [State.judge]; (repeat' split) <;> simp

@[simp] theorem State.completed_store (s : State) (b : Bay) : (s.completed b).store = s.store := by
  simp [State.completed]

theorem deliverLoadRequest_store (b : Bay) (c : Nat) (s : State) : (deliverLoadRequest b c s).store = s.store := by
  rw [deliverLoadRequest]; split <;> simp

/-! ## Filling supervision -/

@[simp] theorem State.raiseLoaded_store (s : State) (c : Consignment) (l : Line) (sum : Nat) :
    (s.raiseLoaded c l sum).store = s.store := by
  simp only [State.raiseLoaded]; split <;> simp

@[simp] theorem State.fillLine_store (s : State) (b : Bay) (p : Permit) (close : Option Nat) :
    (s.fillLine b p close).store = s.store := by simp [State.fillLine]

@[simp] theorem State.recordReport_store (s : State) (b : Bay) (m : Nat) (flow : Flow) :
    (s.recordReport b m flow).store = s.store := by simp [State.recordReport]

@[simp] theorem State.liveReport_store (s : State) (b : Bay) (p : Permit) (m : Nat) (flow : Flow) :
    (s.liveReport b p m flow).store = s.store := by
  simp only [State.liveReport]; (repeat' split) <;> simp

@[simp] theorem State.lateReport_store (s : State) (b : Bay) (e : StallEntry) (m : Nat) :
    (s.lateReport b e m).store = s.store := by
  simp only [State.lateReport]; (repeat' split) <;> simp

@[simp] theorem State.finishPermit_store (s : State) (b : Bay) (p : Permit) (f : Nat) :
    (s.finishPermit b p f).store = s.store := by
  simp only [State.finishPermit]; (repeat' split) <;> simp

theorem deliverProgress_store (b : Bay) (number m : Nat) (flow : Flow) (s : State) :
    (deliverProgress b number m flow s).store = s.store := by
  simp only [deliverProgress]; (repeat' split) <;> simp

theorem deliverFinish_store (b : Bay) (number f : Nat) (s : State) : (deliverFinish b number f s).store = s.store := by
  simp only [deliverFinish]; (repeat' split) <;> simp

theorem deliverStop_store (b : Bay) (cause : Cause) (s : State) : (deliverStop b cause s).store = s.store := by
  simp [deliverStop]

@[simp] theorem State.setEsd_store (s : State) (v : Bool) : (s.setEsd v).store = s.store := by simp [State.setEsd]

/-! ## Bay slots -/

@[simp] theorem State.join_store (s : State) (b : Bay) : (s.join b).store = s.store := by simp [State.join]

theorem deliverHello_store (b : Bay) (s : State) : (deliverHello b s).store = s.store := by
  simp only [deliverHello]; (repeat' split) <;> simp

@[simp] theorem State.lookupTag_store (s : State) (b : Bay) (tag : Nat) : (s.lookupTag b tag).store = s.store := by
  simp only [State.lookupTag]; (repeat' split) <;> simp

@[simp] theorem State.arrive_store (s : State) (b : Bay) (tag : Nat) : (s.arrive b tag).store = s.store := by
  simp [State.arrive]

@[simp] theorem State.depart_store (s : State) (b : Bay) : (s.depart b).store = s.store := by simp [State.depart]

theorem deliverVehiclePresent_store (b : Bay) (tag : Nat) (s : State) : (deliverVehiclePresent b tag s).store = s.store := by
  simp only [deliverVehiclePresent]; (repeat' split) <;> simp

theorem deliverVehicleAbsent_store (b : Bay) (s : State) : (deliverVehicleAbsent b s).store = s.store := by
  simp only [deliverVehicleAbsent]; split <;> simp

theorem deliverCard_store (b : Bay) (card : Nat) (s : State) : (deliverCard b card s).store = s.store := by
  simp only [deliverCard]; split <;> simp

theorem deliverDrain_store (b : Bay) (c : Nat) (s : State) : (deliverDrain b c s).store = s.store := by
  simp only [deliverDrain]; (repeat' split) <;> simp

@[simp] theorem State.actOnBay_store (s : State) (b : Bay) (old new : BaySettings) : (s.actOnBay b old new).store = s.store := by
  simp only [State.actOnBay]; (repeat' split) <;> simp

/-! ## Gantry bus, office port and starts -/

theorem deliverAck_store (b : Bay) (number : Nat) (lock : LockState) (s : State) :
    (deliverAck b number lock s).store = s.store := by
  simp only [deliverAck]; (repeat' split) <;> simp

@[simp] theorem State.receiving_store (s : State) (buffer : List Byte) (timer : Nat) :
    (s.receiving buffer timer).store = s.store := rfl

@[simp] theorem State.dropFrame_store (s : State) : s.dropFrame.store = s.store := rfl

@[simp] theorem State.endExecution_store (s : State) : s.endExecution.store = s.store := rfl

@[simp] theorem State.taken_store (s : State) (code : Byte) (r : ResultCode) (payload : List Byte) :
    (s.taken code r payload).store = s.store := rfl

@[simp] theorem State.execute_store (s : State) (code : Byte) (owner : State → State × Reply) :
    (s.execute code owner).store = (owner s).1.store := by simp [State.execute]

@[simp] theorem State.setInputs_store (s : State) (inputs : InputLevels) : (s.setInputs inputs).store = s.store := rfl

@[simp] theorem State.emptied_store (s : State) : s.emptied.store = s.store := rfl

@[simp] theorem State.joinCalls_store (s : State) : s.joinCalls.store = s.store :=
  foldl_store (fun _ _ => by split <;> simp) _ _

@[simp] theorem State.started_store (s : State) (kind : StartKind) : (s.started kind).store = s.store := by
  simp only [State.started]; split <;> simp

@[simp] theorem State.softRestart_store (s : State) : s.softRestart.store = s.store := by simp [State.softRestart]

end Sys2Proof.Machine
end

section
/-! SUPPORT. What each owner of a host command does to the Settings Store: the owners that answer from or act on other
blocks leave it, and each settings command is refused BUSY or writes one part of the working copy. -/

namespace Sys2Proof.Machine

/-! ## Answers -/

@[simp] theorem okWith_state (payload : List Byte) (s : State) : (okWith payload s).1 = s := rfl
@[simp] theorem okay_state (s : State) : (okay s).1 = s := rfl
@[simp] theorem refused_state (r : ResultCode) (s : State) : (refused r s).1 = s := rfl

/-! ## Owners that leave the store -/

@[simp] theorem ownReset_store (kind : StartKind) (s : State) : (ownReset kind s).1.store = s.store := rfl

@[simp] theorem ownSetClock_store (minute : Nat) (s : State) : (ownSetClock minute s).1.store = s.store := by
  simp only [ownSetClock]; (repeat' split) <;> simp

@[simp] theorem ownGetBay_store (bay : Nat) (s : State) : (ownGetBay bay s).1.store = s.store := by
  simp only [ownGetBay]; split <;> simp

@[simp] theorem ownGetProduct_store (code : Nat) (s : State) : (ownGetProduct code s).1.store = s.store := by
  simp only [ownGetProduct]; split <;> simp

@[simp] theorem ownGetSegregation_store (g : Nat) (s : State) : (ownGetSegregation g s).1.store = s.store := by
  simp only [ownGetSegregation]; split <;> simp

@[simp] theorem ownAdmitDriver_store (card : Nat) (args : DriverArgs) (s : State) :
    (ownAdmitDriver card args s).1.store = s.store := by
  simp only [ownAdmitDriver]; (repeat' split) <;> simp

@[simp] theorem summarise_store (d : Driver) (a : Accounts) (s : State) : (summarise d a s).1.store = s.store := by
  simp only [summarise]; (repeat' split) <;> simp

@[simp] theorem ownUpdateSummary_store (card : Nat) (a : Accounts) (s : State) :
    (ownUpdateSummary card a s).1.store = s.store := by
  simp only [ownUpdateSummary]; (repeat' split) <;> simp

@[simp] theorem setHold_store (card : Nat) (v : Bool) (s : State) : (setHold card v s).1.store = s.store := by
  simp only [setHold]; (repeat' split) <;> simp

@[simp] theorem ownRetireDriver_store (card : Nat) (s : State) : (ownRetireDriver card s).1.store = s.store := by
  simp only [ownRetireDriver]; (repeat' split) <;> simp

@[simp] theorem ownReadDriver_store (card : Nat) (s : State) : (ownReadDriver card s).1.store = s.store := by
  simp only [ownReadDriver]; (repeat' split) <;> simp

@[simp] theorem ownListDrivers_store (page : Nat) (s : State) : (ownListDrivers page s).1.store = s.store := by
  simp only [ownListDrivers]; split <;> simp

@[simp] theorem ownProject_store (card : Nat) (plan : RoundPlan) (context : OptField) (s : State) :
    (ownProject card plan context s).1.store = s.store := by
  simp only [ownProject]; (repeat' split) <;> simp

@[simp] theorem ownAdmitUnit_store (number count maxPayload : Nat) (cs : List CompartmentArgs) (s : State) :
    (ownAdmitUnit number count maxPayload cs s).1.store = s.store := by
  simp only [ownAdmitUnit]; (repeat' split) <;> simp

@[simp] theorem ownMarkClean_store (number c : Nat) (s : State) : (ownMarkClean number c s).1.store = s.store := by
  simp only [ownMarkClean]; (repeat' split) <;> simp

@[simp] theorem ownRetireUnit_store (number : Nat) (s : State) : (ownRetireUnit number s).1.store = s.store := by
  simp only [ownRetireUnit]; (repeat' split) <;> simp

@[simp] theorem ownReadUnit_store (number : Nat) (s : State) : (ownReadUnit number s).1.store = s.store := by
  simp only [ownReadUnit]; (repeat' split) <;> simp

@[simp] theorem ownOpenConsignment_store (a : OpenArgs) (s : State) : (ownOpenConsignment a s).1.store = s.store := by
  simp only [ownOpenConsignment]; (repeat' split) <;> simp

/-- A command that names a line leaves the store when what it does past its checks leaves it. -/
theorem onLine_store (number c : Nat) (form : Bool) {act : Consignment → Line → State → State × Reply} (s : State)
    (ha : ∀ k l, (act k l s).1.store = s.store) : (onLine number c form act s).1.store = s.store := by
  simp only [onLine]; (repeat' split) <;> simp [ha]

@[simp] theorem amend_store (ordered : Nat) (c : Consignment) (l : Line) (s : State) :
    (amend ordered c l s).1.store = s.store := by
  simp only [amend]; (repeat' split) <;> simp

@[simp] theorem cancel_store (c : Consignment) (l : Line) (s : State) : (cancel c l s).1.store = s.store := by
  simp only [cancel]; split <;> simp

@[simp] theorem closeLine_store (c : Consignment) (l : Line) (s : State) : (closeLine c l s).1.store = s.store := by
  simp only [closeLine]; split <;> simp

@[simp] theorem ownVoidConsignment_store (number : Nat) (s : State) : (ownVoidConsignment number s).1.store = s.store := by
  simp only [ownVoidConsignment]; (repeat' split) <;> simp

@[simp] theorem releaseJudged_store (c : Consignment) (p : Projection) (s : State) :
    (releaseJudged c p s).1.store = s.store := by
  simp only [releaseJudged]; (repeat' split) <;> simp

@[simp] theorem ownRelease_store (number : Nat) (s : State) : (ownRelease number s).1.store = s.store := by
  simp only [ownRelease]; (repeat' split) <;> simp

@[simp] theorem ownReadConsignment_store (number : Nat) (s : State) : (ownReadConsignment number s).1.store = s.store := by
  simp only [ownReadConsignment]; (repeat' split) <;> simp

@[simp] theorem ownBayStatus_store (bay : Nat) (s : State) : (ownBayStatus bay s).1.store = s.store := by
  simp only [ownBayStatus]; split <;> simp

@[simp] theorem ownBayLamp_store (bay call : Nat) (s : State) : (ownBayLamp bay call s).1.store = s.store := by
  simp only [ownBayLamp]; (repeat' split) <;> simp

@[simp] theorem ownStopBay_store (bay : Nat) (s : State) : (ownStopBay bay s).1.store = s.store := by
  simp only [ownStopBay]; (repeat' split) <;> simp

@[simp] theorem ownBayReset_store (bay : Nat) (s : State) : (ownBayReset bay s).1.store = s.store := by
  simp only [ownBayReset]; (repeat' split) <;> simp

@[simp] theorem ownAckAttention_store (entry : Nat) (mask : Mask) (s : State) :
    (ownAckAttention entry mask s).1.store = s.store := by
  simp only [ownAckAttention]; (repeat' split) <;> simp

/-! ## Whether a save is in flight (R177) -/

theorem State.saving_eq_false_iff (s : State) : s.saving = false ↔ s.store.save = .idle := by simp [State.saving]
theorem State.saving_eq_true_iff (s : State) : s.saving = true ↔ s.store.save ≠ .idle := by simp [State.saving]

end Sys2Proof.Machine
end

section
/-! SUPPORT. The settings as the part keeps them (R19, R51, R57, R135): each write of one part of them keeps them in range
and consistent, and with them the Settings Store (R177, R178). -/

namespace Sys2Proof.Machine

/-! ## Values brought into range -/

theorem clampTo_eq_max_min {lo hi : Nat} (h : lo ≤ hi) (n : Nat) : clampTo lo hi n = max lo (min hi n) := by
  unfold clampTo; split
  · omega
  · split <;> omega

/-- A value brought into a range lies in it (R20, R135). -/
theorem clampTo_bounds {lo hi : Nat} (h : lo ≤ hi) (n : Nat) : lo ≤ clampTo lo hi n ∧ clampTo lo hi n ≤ hi := by
  rw [clampTo_eq_max_min h]; omega

theorem clampedLimits_sound (a : LimitsArgs) : (clampedLimits a).Sound := by
  simp [clampedLimits, Limits.Sound, clampTo_bounds]

theorem clampedBay_sound (a : BayArgs) : (clampedBay a).Sound := by
  simp [clampedBay, BaySettings.Sound, clampTo_bounds]

/-- The settings SET_BAY stores are in range, the allowance and slowdown kept for a live permit because they were. -/
theorem storedBay_sound {old : BaySettings} (h : old.Sound) (kept : Bool) (args : BayArgs) :
    (storedBay old kept args).Sound := by
  obtain ⟨rank, flow, allowance, slowdown, initial, progress⟩ := clampedBay_sound args
  obtain ⟨-, -, oldAllowance, oldSlowdown, -, -⟩ := h
  cases kept with
  | false => exact ⟨rank, flow, allowance, slowdown, initial, progress⟩
  | true => exact ⟨rank, flow, oldAllowance, oldSlowdown, initial, progress⟩

/-! ## Product entries -/

theorem Product.blank_sound : Product.blank.Sound := rfl

/-- An entry whose profile passes the check of SET_PRODUCT is consistent (R51, R53). -/
theorem productProfile?_sound {a : ProductArgs} {p : Product} (h : productProfile? a = some p) : p.Sound := by
  unfold productProfile? at h
  split at h
  · cases h
  · obtain ⟨inRange, ⟨⟩⟩ := Option.ite_none_right_eq_some.1 h
    simpa [Product.Sound] using inRange

theorem writtenProduct?_sound {args : ProductArgs} {p : Product} (h : writtenProduct? args = some p) : p.Sound := by
  unfold writtenProduct? at h
  split at h
  · exact productProfile?_sound h
  · cases h; exact Product.blank_sound
  · cases h

/-! ## The segregation matrix -/

/-- What a row and its mirrored column put at (i, j) (R58). -/
theorem mirrored_at (m : Vector (Vector Relation 16) 16) (g : Nat) (row : List Relation) (i j : Fin 16) :
    (mirrored m g row)[i][j] =
      if i.val = g then row.getD j.val .mix else if j.val = g then row.getD i.val .mix else m[i][j] := by
  simp [mirrored]

theorem mirrored_symmetric {m : Vector (Vector Relation 16) 16} (h : ∀ i j : Fin 16, m[i][j] = m[j][i]) (g : Nat)
    (row : List Relation) (i j : Fin 16) : (mirrored m g row)[i][j] = (mirrored m g row)[j][i] := by
  rw [mirrored_at, mirrored_at]
  by_cases hi : i.val = g <;> by_cases hj : j.val = g
  · simp [hi, hj]
  · simp [hi, hj]
  · simp [hi, hj]
  · simpa [hi, hj] using h i j

theorem mirrored_diagonal {m : Vector (Vector Relation 16) 16} (h : ∀ i : Fin 16, m[i][i] = .mix) {g : Nat}
    {row : List Relation} (hg : row[g]? = some .mix) (i : Fin 16) : (mirrored m g row)[i][i] = .mix := by
  rw [mirrored_at]
  by_cases hi : i.val = g
  · simp [hi, hg]
  · simpa [hi] using h i

/-! ## Sound settings under one write -/

theorem Settings.default_sound : Settings.default.Sound where
  limits := by simp [Settings.default, Limits.default, Limits.Sound]
  bays b := by
    have hb : 1 ≤ b.num ∧ b.num ≤ 12 := by cases b <;> decide
    simp [Settings.default, BaySettings.default, BaySettings.Sound, hb]
  products p hp := by
    obtain rfl : p = .blank := by simpa [Settings.default] using hp
    exact Product.blank_sound
  symmetric g h := by simp [Settings.default]
  diagonal g := by simp [Settings.default]

theorem Settings.Sound.withLimits {c : Settings} (h : c.Sound) {l : Limits} (hl : l.Sound) :
    ({ c with limits := l } : Settings).Sound := { h with limits := hl }

theorem Settings.Sound.withBay {c : Settings} (h : c.Sound) (b : Bay) {x : BaySettings} (hx : x.Sound) :
    ({ c with bays := c.bays.put b x } : Settings).Sound where
  limits := h.limits
  bays a := by
    rw [PerBay.look_put]; split
    · exact hx
    · exact h.bays a
  products := h.products
  symmetric := h.symmetric
  diagonal := h.diagonal

theorem Settings.Sound.withProduct {c : Settings} (h : c.Sound) (k : Nat) {p : Product} (hp : p.Sound) :
    ({ c with products := c.products.setIfInBounds k p } : Settings).Sound where
  limits := h.limits
  bays := h.bays
  products q hq := by
    rw [Vector.toList_setIfInBounds] at hq
    rcases List.mem_or_eq_of_mem_set hq with hq | rfl
    · exact h.products q hq
    · exact hp
  symmetric := h.symmetric
  diagonal := h.diagonal

theorem Settings.Sound.withRow {c : Settings} (h : c.Sound) {g : Nat} {row : List Relation} (hg : row[g]? = some .mix) :
    ({ c with matrix := mirrored c.matrix g row } : Settings).Sound where
  limits := h.limits
  bays := h.bays
  products := h.products
  symmetric := mirrored_symmetric h.symmetric g row
  diagonal := mirrored_diagonal h.diagonal hg

theorem Settings.Sound.withMasks {c : Settings} (h : c.Sound) (bk gk : Mask) :
    ({ c with bayKinds := bk, gantryKinds := gk } : Settings).Sound := { h with }

/-! ## The Settings Store -/

/-- Soundness of the store reads nothing but the store. -/
theorem State.StoreSound.of_store_eq {s t : State} (h : s.StoreSound) (e : t.store = s.store) : t.StoreSound where
  working := by rw [e]; exact h.working
  image := by rw [e]; exact h.image
  inFlight := by rw [e]; exact h.inFlight
  bad := by rw [e]; exact h.bad

/-- A write of the working copy, made only while no save is in flight, keeps the store sound (R177). -/
theorem State.StoreSound.write {s t : State} (h : s.StoreSound) (idle : s.saving = false) {c : Settings} (hc : c.Sound)
    (e : t.store = { s.store with settings := c }) : t.StoreSound := by
  have hs : s.store.save = .idle := (State.saving_eq_false_iff s).1 idle
  have hcopy := h.inFlight
  exact {
    working := by rw [e]; exact hc
    image := by rw [e]; exact h.image
    inFlight := by rw [e]; simpa [hs] using hcopy
    bad := by rw [e]; simp [hs] }

/-! ## The settings commands -/

theorem ownSetLimits_keeps_storeSound (args : LimitsArgs) {s : State} (h : s.StoreSound) :
    (ownSetLimits args s).1.StoreSound := by
  cases hs : s.saving with
  | true => simpa [ownSetLimits, hs] using h
  | false =>
    refine h.write hs (h.working.withLimits (clampedLimits_sound args)) ?_
    simp [ownSetLimits, hs, State.setLimits]

theorem ownSetBay_keeps_storeSound (bay : Nat) (args : BayArgs) {s : State} (h : s.StoreSound) :
    (ownSetBay bay args s).1.StoreSound := by
  unfold ownSetBay
  split
  · exact h
  · rename_i b hb
    cases hs : s.saving with
    | true => simpa using h
    | false =>
      refine h.write hs (h.working.withBay b
        (storedBay_sound (h.working.bays b) (s.permitSlot b).permit.isSome args)) ?_
      simp [State.setBaySettings, State.settingsOf]

theorem State.setProductEntry_store (p : Product) (s : State) (k : Nat) :
    (s.setProductEntry p k).store = s.store ∨ ∃ j, (s.setProductEntry p k).store =
      { s.store with settings := { s.store.settings with products := s.store.settings.products.setIfInBounds j p } } := by
  cases k with
  | zero => exact .inl rfl
  | succ j => exact .inr ⟨j, rfl⟩

theorem ownSetProduct_keeps_storeSound (code : Nat) (args : ProductArgs) {s : State} (h : s.StoreSound) :
    (ownSetProduct code args s).1.StoreSound := by
  unfold ownSetProduct
  split
  · rename_i p _ hp
    cases hs : s.saving with
    | true => simpa using h
    | false =>
      simp only [Bool.false_eq_true, if_false]
      split
      · exact h
      · rcases s.setProductEntry_store p code with e | ⟨j, e⟩
        · exact h.of_store_eq e
        · exact h.write hs (h.working.withProduct j (writtenProduct?_sound hp)) e
  · exact h

theorem ownSetSegregation_keeps_storeSound (g : Nat) (row : List Nat) {s : State} (h : s.StoreSound) :
    (ownSetSegregation g row s).1.StoreSound := by
  unfold ownSetSegregation
  split
  · exact h
  · rename_i rs _
    split
    · exact h
    · rename_i valid
      have hmix : rs[g]? = some .mix := Decidable.byContradiction fun e => valid (.inr e)
      cases hs : s.saving with
      | true => simpa using h
      | false =>
        simp only [Bool.false_eq_true, if_false]
        split
        · exact h
        · exact h.write hs (h.working.withRow hmix) rfl

theorem ownSetAttentionEnable_keeps_storeSound (bk gk : Mask) {s : State} (h : s.StoreSound) :
    (ownSetAttentionEnable bk gk s).1.StoreSound := by
  cases hs : s.saving with
  | true => simpa [ownSetAttentionEnable, hs] using h
  | false =>
    refine h.write hs (h.working.withMasks (bk &&& allBayKinds) (gk &&& allGantryKinds)) ?_
    simp [ownSetAttentionEnable, hs, State.setEnable]

/-! ## The stages of a save (R177, R178) -/

/-- SAVE_SETTINGS copies the working copy and makes the image bad. -/
theorem ownSaveSettings_keeps_storeSound {s : State} (h : s.StoreSound) : (ownSaveSettings s).1.StoreSound := by
  cases hs : s.saving with
  | true => simpa [ownSaveSettings, hs] using h
  | false =>
    simp only [ownSaveSettings, hs]
    exact { working := h.working, image := h.image, inFlight := rfl, bad := fun _ => rfl }

theorem execEraseComplete_keeps_storeSound {s t : State} (h : s.StoreSound) (he : execEraseComplete s = .next t) :
    t.StoreSound := by
  cases he
  split
  · rename_i hs
    have hcopy := h.inFlight
    exact { working := h.working, image := nofun, inFlight := by simpa [hs] using hcopy, bad := fun _ => rfl }
  · exact h

/-- The copy written into the image is the working copy, so the image's contents stay sound. -/
theorem execWriteComplete_keeps_storeSound (m : Bool) {s t : State} (h : s.StoreSound)
    (he : execWriteComplete m s = .next t) : t.StoreSound := by
  cases he
  split
  · rename_i hs
    have hcopy : s.store.copy = some s.store.settings := by simpa [hs] using h.inFlight
    exact {
      working := h.working
      image := fun c hc => by
        obtain rfl : s.store.settings = c := Option.some.inj (hcopy.symm.trans hc)
        exact h.working
      inFlight := hcopy
      bad := by simp }
  · exact h

theorem execVerifyComplete_keeps_storeSound (agrees : Bool) {s t : State} (h : s.StoreSound)
    (he : execVerifyComplete agrees s = .next t) : t.StoreSound := by
  cases he
  split
  · refine State.StoreSound.of_store_eq ?_ (State.raiseGantry_store _ _)
    exact { working := h.working, image := h.image, inFlight := rfl, bad := by simp }
  · exact h

/-! ## Starts -/

/-- A power-on or hard reset abandons a save and takes the image if it is good and the defaults if not (R176, R179). -/
theorem State.restart_keeps_storeSound (kind : StartKind) {s : State} (h : s.StoreSound) : (s.restart kind).StoreSound := by
  have fresh : ∀ {u : State} {c : Settings}, c.Sound →
      u.store = { s.store with save := .idle, copy := none, settings := c } → u.StoreSound := by
    intro u c hc e
    exact {
      working := by rw [e]; exact hc
      image := by rw [e]; exact h.image
      inFlight := by rw [e]; rfl
      bad := by rw [e]; simp }
  simp only [State.restart]
  split
  · rename_i c hc _
    exact fresh (h.image c hc) (by simp)
  · exact fresh Settings.default_sound (by simp)

theorem State.takeReset_keeps_storeSound (kind : StartKind) {s : State} (h : s.StoreSound) :
    (s.takeReset kind).StoreSound := by
  cases kind with
  | soft => exact h.of_store_eq (State.softRestart_store s)
  | hard => exact s.restart_keeps_storeSound .hard h
  | powerOn => exact s.restart_keeps_storeSound .hard h

end Sys2Proof.Machine
end

section
/-! PROOF. Every step keeps the Settings Store sound (R19, R51, R57, R135, R177, R178): through the owner of each host
command, through the frames and bytes that reach an owner, and through each event. -/

namespace Sys2Proof.Machine

/-! ## Host commands -/

/-- A whole frame of fixed length only marks an overrun, or runs its owner (R164, R165). -/
theorem State.hostFrame_outcomes (s : State) (code : Byte) (owner : State → State × Reply) :
    s.hostFrame code owner = s.markOverrun ∨ s.hostFrame code owner = s.execute code owner := by
  unfold State.hostFrame
  split
  · exact .inl rfl
  · exact .inr rfl

/-- A whole frame of counted length may also be refused by the port (R164 check 3). -/
theorem State.countedFrame_outcomes (s : State) (code : Byte) (lengthFits : Bool) (owner : State → State × Reply) :
    s.countedFrame code lengthFits owner = s.markOverrun ∨ s.countedFrame code lengthFits owner = s.execute code owner
      ∨ s.countedFrame code lengthFits owner = s.portFails code .length := by
  unfold State.countedFrame
  split
  · exact .inl rfl
  · split
    · exact .inr (.inl rfl)
    · exact .inr (.inr rfl)

/-- A host command's row only marks an overrun, or runs its owner, or is refused by the port (R164, R165). -/
theorem exec_of_ownerOf {i : Instr} {owner : State → State × Reply} {s t : State} (ho : ownerOf i = some owner)
    (he : exec i s = .next t) :
    ∃ code, t = s.markOverrun ∨ t = s.execute code owner ∨ t = s.portFails code .length := by
  cases i with
  | setSegregation | admitUnit | openConsignment => cases ho; cases he; exact ⟨_, s.countedFrame_outcomes _ _ _⟩
  | _ => cases ho <;> cases he <;> exact ⟨_, (s.hostFrame_outcomes _ _).imp_right .inl⟩

/-- The owner of every host command keeps the store sound. -/
theorem ownerOf_keeps_storeSound {i : Instr} {owner : State → State × Reply} {s : State} (ho : ownerOf i = some owner)
    (h : s.StoreSound) : (owner s).1.StoreSound := by
  cases i with
  | setLimits args => cases ho; exact ownSetLimits_keeps_storeSound args h
  | setBay bay args => cases ho; exact ownSetBay_keeps_storeSound bay args h
  | setProduct code args => cases ho; exact ownSetProduct_keeps_storeSound code args h
  | setSegregation g row => cases ho; exact ownSetSegregation_keeps_storeSound g row h
  | saveSettings => cases ho; exact ownSaveSettings_keeps_storeSound h
  | setAttentionEnable bk gk => cases ho; exact ownSetAttentionEnable_keeps_storeSound bk gk h
  | identify | getClock | getLimits | readAttention => cases ho; exact h
  | amendLine | cancelLine | closeShort =>
    cases ho; exact h.of_store_eq (onLine_store _ _ _ s fun _ _ => by simp)
  | _ => cases ho <;> exact h.of_store_eq (by simp)

/-! ## Frames and bytes -/

theorem State.wholeFrame_keeps_storeSound (code : Byte) (payload : List Byte) (sum : BitVec 16) {s : State}
    (h : s.StoreSound) : (s.wholeFrame code payload sum).StoreSound := by
  unfold State.wholeFrame
  split
  · exact h.of_store_eq (by simp)
  · split
    · exact h.of_store_eq (by simp)
    · exact h.of_store_eq (by simp)
    · exact h.of_store_eq (by simp)
    · split
      · rename_i ho
        exact (ownerOf_keeps_storeSound ho h).of_store_eq (by simp)
      · exact h

theorem State.receiveByte_keeps_storeSound (x : Byte) {s : State} (h : s.StoreSound) : (s.receiveByte x).StoreSound := by
  simp only [State.receiveByte]
  split
  · split
    · exact h.of_store_eq (by simp)
    · exact h
  · split
    · split
      · exact h.of_store_eq (by simp)
      · exact h
    · split
      · split
        · exact h.of_store_eq (by simp)
        · split
          · exact s.wholeFrame_keeps_storeSound _ _ _ h
          · exact h.of_store_eq (by simp)
      · exact h.of_store_eq (by simp)

/-! ## Events -/

/-- A message keeps the store sound when its delivery leaves it. -/
theorem State.StoreSound.message {s : State} (h : s.StoreSound) {b : Bay} {inRange hello : Bool}
    {deliver : State → State} (hd : ∀ u : State, (deliver u).store = u.store) :
    (s.message b inRange hello deliver).StoreSound := h.of_store_eq (s.message_store b inRange hello hd)

/-- The last byte of a response changes the port, or makes a reset that was arranged take effect (R164, R167). -/
theorem execResponseSent_keeps_storeSound {s t : State} (h : s.StoreSound) (he : execResponseSent s = .next t) :
    t.StoreSound := by
  cases he
  split
  · exact h.of_store_eq rfl
  · split
    · split
      · exact s.takeReset_keeps_storeSound _ h
      · exact h.of_store_eq rfl
    · exact h.of_store_eq rfl

/-- A row that is no host command keeps the store sound: the starts, the stages of a save and the bytes of a frame reach it
through the lemmas above; a message and every other event leave it as it was. -/
theorem exec_event_keeps_storeSound {i : Instr} (hi : ownerOf i = none) {s t : State} (h : s.StoreSound)
    (he : exec i s = .next t) : t.StoreSound := by
  cases i with
  | powerOn inputs => cases he; exact State.restart_keeps_storeSound _ (h.of_store_eq (State.setInputs_store s inputs))
  | softReset =>
    cases he; split
    · exact s.takeReset_keeps_storeSound .soft h
    · exact h
  | hardReset =>
    cases he; split
    · exact s.takeReset_keeps_storeSound .hard h
    · exact h
  | responseSent => exact execResponseSent_keeps_storeSound h he
  | eraseComplete => exact execEraseComplete_keeps_storeSound h he
  | writeComplete m => exact execWriteComplete_keeps_storeSound m h he
  | verifyComplete agrees => exact execVerifyComplete_keeps_storeSound agrees h he
  | unknownCommand code payload sum =>
    cases he; split
    · exact h.of_store_eq (by simp)
    · exact s.wholeFrame_keeps_storeSound code payload sum h
  | frameMark => cases he; exact s.receiveByte_keeps_storeSound _ h
  | length code len =>
    cases he; split
    · exact h.of_store_eq (by simp)
    · exact State.receiveByte_keeps_storeSound len (h.of_store_eq (State.receiving_store s [code] s.frameTime))
  | hello b => cases he; exact h.message (deliverHello_store b)
  | vehiclePresent b tag => cases he; exact h.message (deliverVehiclePresent_store b tag)
  | vehicleAbsent b => cases he; exact h.message (deliverVehicleAbsent_store b)
  | card b number => cases he; exact h.message (deliverCard_store b number)
  | drain b c => cases he; exact h.message (deliverDrain_store b c)
  | call b => cases he; exact h.message (fun u => State.raiseBay_store u b .call)
  | loadRequest b c => cases he; exact h.message (deliverLoadRequest_store b c)
  | progress b n m flow => cases he; exact h.message (deliverProgress_store b n m flow)
  | finish b n m => cases he; exact h.message (deliverFinish_store b n m)
  | stop b => cases he; exact h.message (deliverStop_store b .stopButton)
  | meterFault b => cases he; exact h.message (deliverStop_store b .meterFault)
  | ack b n lock => cases he; exact h.message (deliverAck_store b n lock)
  | esdAssertion =>
    cases he; split
    · exact h
    · refine h.of_store_eq ?_
      rw [State.pick_store, State.setEsd_store]
      exact foldl_store (fun _ _ => State.stall_store ..) _ _
  | clockMinuteTick | frameTimeout | framingError | requestRaised | take | grantExpiry | holdExpiry | messageDiscarded
  | transmissionEnd | stationLost | evaluationCompletion | droppedEvaluationCompletion | progressTimeout | clampChange
  | probeChange | esdRelease =>
    cases he
    refine h.of_store_eq ?_
    (repeat' split) <;> simp
  | _ => cases hi

theorem exec_keeps_storeSound {i : Instr} {s t : State} (h : s.StoreSound) (he : exec i s = .next t) : t.StoreSound := by
  cases ho : ownerOf i with
  | none => exact exec_event_keeps_storeSound ho h he
  | some owner =>
    obtain ⟨code, rfl | rfl | rfl⟩ := exec_of_ownerOf ho he
    · exact h.of_store_eq (State.markOverrun_store s)
    · exact (ownerOf_keeps_storeSound ho h).of_store_eq (State.execute_store s code owner)
    · exact h.of_store_eq (State.portFails_store s code .length)

/-- Settles O8: the step runs the front command with the queue's rest, or idles. -/
theorem stepKeepsSettingsSound : Obligations.StepKeepsSettingsSound := by
  intro s t h hs
  unfold step at hs
  split at hs
  · cases hs; exact h
  · exact exec_keeps_storeSound (h.of_store_eq (State.withPending_store s _)) hs

end Sys2Proof.Machine
end

section
/-! PROOF. The hours projection (02): GET_LIMITS and SET_LIMITS (R20, R21), BUSY while a save is in flight (R53, R58, R135,
R175, R177), and the slacks of a projection (R26, R28). -/

namespace Sys2Proof.Machine

/-! ## GET_LIMITS and SET_LIMITS -/

/-- Settles O28: GET_LIMITS is one answered frame whose owner returns the state as it is. -/
theorem getLimitsAnswersTheWorkingCopy : Obligations.GetLimitsAnswersTheWorkingCopy := fun s idle =>
  congrArg Host.Outcome.next (s.hostFrame_taken s 0x19 ownGetLimits .ok _ idle rfl)

/-- A value is left as it is exactly when it lies in the range it is brought into. -/
theorem clampTo_eq_self_iff {lo hi : Nat} (h : lo ≤ hi) (n : Nat) : clampTo lo hi n = n ↔ inRange lo hi n = true := by
  rw [clampTo_eq_max_min h]; simp [inRange]; omega

theorem yesNo_isSome_iff : ∀ n : Nat, (yesNo n).isSome = true ↔ n ≤ 1
  | 0 | 1 | _ + 2 => by simp [yesNo]

theorem yesNoClamped_eq_decide (n : Nat) : yesNoClamped n = decide (n ≠ 0) := by cases n <;> rfl

/-- What SET_LIMITS stores, each field between its bounds as R20 gives them. -/
theorem clampedLimits_eq (a : LimitsArgs) : clampedLimits a =
    { dDay := max 60 (min 900 a.dDay), cMax := max 60 (min 480 a.cMax), bMin := max 15 (min 120 a.bMin),
      sDuty := max 120 (min 1080 a.sDuty), wDrive := max 600 (min 6000 a.wDrive), margin := min 120 a.margin,
      handling := min 120 a.handling, fNom := max 100 (min 6000 a.fNom), tolerance := min 500 a.tolerance,
      breakFlag := a.breakFlag ≠ 0 } := by
  simp [clampedLimits, clampTo_eq_max_min, yesNoClamped_eq_decide]

/-- SET_LIMITS answers OK exactly when it stores every field as given. -/
theorem limitsInRange_iff (a : LimitsArgs) : limitsInRange a = true ↔
    (clampedLimits a).dDay = a.dDay ∧ (clampedLimits a).cMax = a.cMax ∧ (clampedLimits a).bMin = a.bMin
      ∧ (clampedLimits a).sDuty = a.sDuty ∧ (clampedLimits a).wDrive = a.wDrive ∧ (clampedLimits a).margin = a.margin
      ∧ (clampedLimits a).handling = a.handling ∧ (clampedLimits a).fNom = a.fNom
      ∧ (clampedLimits a).tolerance = a.tolerance ∧ a.breakFlag ≤ 1 := by
  simp [limitsInRange, clampedLimits, clampTo_eq_self_iff, yesNo_isSome_iff, and_assoc]

/-! ## Values that pass the first check of SET_PRODUCT and SET_SEGREGATION -/

@[simp] theorem Bay.ofNat?_num (b : Bay) : Bay.ofNat? b.num = some b := by cases b <;> rfl

theorem packingOf?_of_le : ∀ {n : Nat}, n ≤ 3 → ∃ pg, packingOf? n = some pg ∧ (n = 0 → pg = .none)
  | 0, _ => ⟨.none, rfl, fun _ => rfl⟩
  | 1, _ => ⟨.i, rfl, nofun⟩
  | 2, _ => ⟨.ii, rfl, nofun⟩
  | 3, _ => ⟨.iii, rfl, nofun⟩
  | _ + 4, h => absurd h (by omega)

theorem relationOf?_of_le : ∀ {n : Nat}, n ≤ 2 → ∃ r, relationOf? n = some r
  | 0, _ => ⟨.mix, rfl⟩
  | 1, _ => ⟨.apart, rfl⟩
  | 2, _ => ⟨.exclude, rfl⟩
  | _ + 3, h => absurd h (by omega)

/-- The fields R51 and R53 allow for a defined entry describe one. -/
theorem productProfile?_isSome {x : ProductArgs} (un : x.un ≤ 3600) (hazard : x.hazard ≤ 9)
    (subsidiary : x.subsidiary ≤ 9) (packing : x.packing ≤ 3) (group : x.group ≤ 15) (density : 500 ≤ x.density ∧ x.density ≤ 2000)
    (plain : x.hazard = 0 → x.un = 0 ∧ x.subsidiary = 0 ∧ x.packing = 0)
    (dangerous : x.hazard ≠ 0 → 1 ≤ x.un ∧ x.subsidiary ≠ x.hazard) : ∃ p, productProfile? x = some p := by
  obtain ⟨pg, hpg, hnone⟩ := packingOf?_of_le packing
  have profile : if x.hazard = 0 then x.un = 0 ∧ x.subsidiary = 0 ∧ pg = .none
      else 1 ≤ x.un ∧ x.subsidiary ≠ x.hazard := by
    split
    · rename_i hz
      obtain ⟨hu, hs, hp⟩ := plain hz
      exact ⟨hu, hs, hnone hp⟩
    · exact dangerous ‹_›
  exact ⟨_, by simp only [productProfile?, hpg]; exact if_pos ⟨un, hazard, subsidiary, group, density.1, density.2, profile⟩⟩

/-- A row of relation codes is read place by place (R58). -/
theorem relationsOf?_of_le : ∀ {row : List Nat}, (∀ x ∈ row, x ≤ 2) →
    ∃ rs, relationsOf? row = some rs ∧ ∀ g : Nat, rs[g]? = row[g]?.bind relationOf?
  | [], _ => ⟨[], rfl, by simp⟩
  | n :: ns, h => by
    obtain ⟨rs, hrs, hat⟩ := relationsOf?_of_le (row := ns) fun x hx => h x (List.mem_cons_of_mem _ hx)
    obtain ⟨r, hr⟩ := relationOf?_of_le (h n List.mem_cons_self)
    refine ⟨r :: rs, by simp [relationsOf?, hr, hrs], fun g => ?_⟩
    cases g with
    | zero => simp [hr]
    | succ g => simpa using hat g

/-! ## The six settings commands while a save is in flight -/

section Saving

variable {s : State} (saving : s.saving = true)
include saving

theorem ownSetLimits_saving (a : LimitsArgs) : ownSetLimits a s = refused .busy s := by simp [ownSetLimits, saving]

theorem ownSaveSettings_saving : ownSaveSettings s = refused .busy s := by simp [ownSaveSettings, saving]

theorem ownSetBay_saving (b : Bay) (x : BayArgs) : ownSetBay b.num x s = refused .busy s := by simp [ownSetBay, saving]

theorem ownSetAttentionEnable_saving (x y : Mask) : ownSetAttentionEnable x y s = refused .busy s := by
  simp [ownSetAttentionEnable, saving]

theorem ownSetProduct_saving {k : Nat} (hk : validCode k = true) {x : ProductArgs} {p : Product}
    (hx : writtenProduct? x = some p) : ownSetProduct k x s = refused .busy s := by simp [ownSetProduct, hk, hx, saving]

theorem ownSetSegregation_saving {g : Nat} (hg : g ≤ 15) {row : List Nat} {rs : List Relation}
    (hrow : relationsOf? row = some rs) (hmix : rs[g]? = some .mix) : ownSetSegregation g row s = refused .busy s := by
  simp [ownSetSegregation, hrow, hmix, saving, Nat.not_lt.2 hg]

end Saving

/-- A frame whose owner refuses it is answered with the refusal and changes nothing else. -/
theorem State.hostFrame_refused {s : State} (idle : s.port.executing = false) (code : Byte)
    {owner : State → State × Reply} {r : ResultCode} (h : owner s = refused r s) :
    Host.Outcome.next (φ := Fault) (ρ := Refusal) (s.hostFrame code owner) = .next (s.taken code r []) :=
  congrArg Host.Outcome.next (s.hostFrame_taken s code owner r [] idle h)

/-- With no save in flight SET_LIMITS stores the clamped limits and answers them. -/
theorem exec_setLimits_not_saving {s : State} (idle : s.port.executing = false) (hs : s.saving = false) (a : LimitsArgs) :
    exec (.setLimits a) s = .next ((s.setLimits (clampedLimits a)).taken 0x18
      (if limitsInRange a then .ok else .clamped) (limitsBytes (clampedLimits a))) :=
  congrArg Host.Outcome.next (s.hostFrame_taken _ 0x18 (ownSetLimits a) _ _ idle (by simp [ownSetLimits, hs]))

/-- Settles O31: what SET_LIMITS stores and when it answers OK, and a refusal BUSY for each settings command. -/
theorem limitsAreClampedUnlessSaving : Obligations.LimitsAreClampedUnlessSaving := by
  intro s a idle new untouched
  have hnew : clampedLimits a = new := clampedLimits_eq a
  have huntouched : limitsInRange a = true ↔ untouched := by rw [limitsInRange_iff, hnew]
  refine ⟨fun hs => ?_, fun hs => ?_⟩
  · refine ⟨if limitsInRange a then .ok else .clamped, ?_, ?_, ?_⟩
    · rw [← huntouched]; split <;> simp [*]
    · rw [← huntouched]; split <;> simp [*]
    · rw [exec_setLimits_not_saving idle ((State.saving_eq_false_iff s).2 hs), hnew]; rfl
  · have saving := (State.saving_eq_true_iff s).2 hs
    refine ⟨State.hostFrame_refused idle _ (ownSetLimits_saving saving a),
      State.hostFrame_refused idle _ (ownSaveSettings_saving saving),
      fun b x => State.hostFrame_refused idle _ (ownSetBay_saving saving b x),
      fun x y => State.hostFrame_refused idle _ (ownSetAttentionEnable_saving saving x y), ?_, ?_⟩
    · intro k x low high fields
      have written : ∃ p, writtenProduct? x = some p := by
        rcases fields with undefined | ⟨isDefined, un, hazard, subsidiary, packing, group, least, most, plain, dangerous⟩
        · exact ⟨.blank, by simp [writtenProduct?, undefined, yesNo]⟩
        · obtain ⟨p, hp⟩ := productProfile?_isSome un hazard subsidiary packing group ⟨least, most⟩ plain dangerous
          exact ⟨p, by simp [writtenProduct?, isDefined, yesNo, hp]⟩
      obtain ⟨p, hp⟩ := written
      exact State.hostFrame_refused idle _ (ownSetProduct_saving saving (by simp [validCode, inRange, low, high]) hp)
    · intro g row hg sixteen codes mix
      obtain ⟨rs, hrs, hat⟩ := relationsOf?_of_le codes
      have hmix : rs[g]? = some .mix := by simp [hat, mix, relationOf?]
      have counted : s.countedFrame 0x22 (row.length == 16) (ownSetSegregation g row)
          = s.hostFrame 0x22 (ownSetSegregation g row) := by simp [State.countedFrame, State.hostFrame, sixteen]
      exact (congrArg Host.Outcome.next counted).trans
        (State.hostFrame_refused idle _ (ownSetSegregation_saving saving hg hrs hmix))

/-! ## The slacks -/

/-- Effective duty is a span of minutes capped at a day (R23). -/
theorem dutyEff_le (d : Driver) (now : Nat) : dutyEff d now ≤ 1440 := Nat.min_le_left _ _

/-- Settles O40: the formulas are the projection's own, and the ranges follow from those of their terms. -/
theorem slacksFollowTheAccounts : Obligations.SlacksFollowTheAccounts := by
  intro s d plan loading dangerous limits p
  have duty : p.slackDuty = limits.sDuty - (dutyEff d s.clock.minute + loading + plan.duty : Nat) := rfl
  have day : p.slackDay = limits.dDay - (d.accounts.driveDay + plan.drive : Nat) := rfl
  have period : p.slackPeriod = limits.wDrive - (d.accounts.drivePeriod + plan.drive : Nat) := rfl
  refine ⟨⟨duty, day, period⟩, ?_⟩
  intro sound driveDay drivePeriod hloading driveLow driveHigh dutyLow dutyHigh
  obtain ⟨⟨dDayLow, dDayHigh⟩, -, -, ⟨sDutyLow, sDutyHigh⟩, ⟨wDriveLow, wDriveHigh⟩, -⟩ := sound
  have shift := dutyEff_le d s.clock.minute
  rw [duty, day, period]
  omega

/-- The binding limit is the first of DAY, CONT and DUTY that equals the least, and PERIOD where none does (R28). -/
theorem bindingOf_iff (least day cont duty : Int) :
    (bindingOf least day cont duty = .day ↔ day = least)
      ∧ (bindingOf least day cont duty = .cont ↔ day ≠ least ∧ cont = least)
      ∧ (bindingOf least day cont duty = .duty ↔ day ≠ least ∧ cont ≠ least ∧ duty = least)
      ∧ (bindingOf least day cont duty = .period ↔ day ≠ least ∧ cont ≠ least ∧ duty ≠ least) := by
  unfold bindingOf
  by_cases hday : day = least
  · simp [hday]
  · by_cases hcont : cont = least
    · simp [hday, hcont]
    · by_cases hduty : duty = least <;> simp [hday, hcont, hduty]

/-- Settles O41: the min slack is a minimum of four, and the binding limit is read off it. -/
theorem bindingLimitNamesTheLeastSlack : Obligations.BindingLimitNamesTheLeastSlack := by
  intro s d plan loading dangerous p
  have least : p.minSlack = min (min p.slackDuty p.slackDay) (min p.slackPeriod p.slackCont) := rfl
  exact ⟨by omega, by omega, bindingOf_iff p.minSlack p.slackDay p.slackCont p.slackDuty⟩

end Sys2Proof.Machine
end

section
/-! PROOF. The product tables and segregation (04): GET_SEGREGATION (R59), what SET_PRODUCT and SET_SEGREGATION write and
when they are refused IN_USE (R53, R58), and the plan-time test over pairs of lines (R61). -/

namespace Sys2Proof.Machine

/-! ## What a store write and an answer leave unchanged -/

/-- A write of the Settings Store changes no other piece. -/
theorem State.withStore_keepsAllBut (s : State) (x : Store) : s.keepsAllBut [.store] (s.withStore x) := by
  intro piece untouched
  cases piece with
  | store => simp at untouched
  | _ => rfl

/-- Answering a host command changes the port at most. -/
theorem State.keepsAllBut_taken {s t : State} {changed : List Piece} (h : s.keepsAllBut changed t) (code : Byte)
    (r : ResultCode) (payload : List Byte) : s.keepsAllBut (changed ++ [.port]) (t.taken code r payload) := by
  intro piece untouched
  obtain ⟨unlisted, notPort⟩ : piece ∉ changed ∧ piece ≠ .port := by simpa using untouched
  have kept := h piece unlisted
  cases piece with
  | port => exact absurd rfl notPort
  | _ => exact kept

@[simp] theorem State.taken_lastResponse? (s : State) (code : Byte) (r : ResultCode) (payload : List Byte) :
    (s.taken code r payload).lastResponse? = some { code := code, result := r, payload := payload } :=
  List.getLast?_concat

@[simp] theorem State.taken_product (s : State) (code : Byte) (r : ResultCode) (payload : List Byte) (k : Nat) :
    (s.taken code r payload).product k = s.product k := rfl

/-! ## GET_SEGREGATION -/

/-- Settles O29: the owner checks the group and answers the row from the state as it is. -/
theorem getSegregationAnswersTheRow : Obligations.GetSegregationAnswersTheRow := by
  intro s g idle
  constructor
  · intro valid
    have owner : ownGetSegregation g s = okWith (rowBytes s.store.settings g) s := if_neg (Nat.not_lt.2 valid)
    exact congrArg Host.Outcome.next (s.hostFrame_taken s 0x23 _ .ok _ idle owner)
  · intro tooGreat
    exact State.hostFrame_refused idle 0x23 (if_pos tooGreat)

/-! ## SET_PRODUCT -/

/-- The lookup after one entry is written, at every code (R53). -/
theorem State.setProductEntry_product (s : State) (p : Product) {k : Nat} (low : 1 ≤ k) (high : k ≤ 64) (j : Nat) :
    (s.setProductEntry p k).product j = if j = k then p else s.product j := by
  obtain ⟨i, rfl⟩ := Nat.exists_eq_add_of_le' low
  cases j with
  | zero => rfl
  | succ j =>
    have bound : i < 64 := high
    by_cases same : j = i
    · simp [State.product, Settings.product, State.setProductEntry, same, bound]
    · simp [State.product, Settings.product, State.setProductEntry, same, Ne.symm same]

theorem State.setProductEntry_keepsAllBut (s : State) (p : Product) (k : Nat) :
    s.keepsAllBut [.store] (s.setProductEntry p k) := by
  cases k with
  | zero => exact fun piece _ => by cases piece <;> rfl
  | succ i => exact s.withStore_keepsAllBut _

@[simp] theorem State.setProductEntry_image (s : State) (p : Product) (k : Nat) :
    (s.setProductEntry p k).store.image = s.store.image := by cases k <;> rfl

/-- A consistent profile within the ranges of R51 describes the entry with its own fields. -/
theorem writtenProduct?_of_defined {a : ProductArgs} {pg : Packing} (isDefined : a.defined = 1)
    (packing : packingOf? a.packing = some pg) (un : a.un ≤ 3600) (hazard : a.hazard ≤ 9) (subsidiary : a.subsidiary ≤ 9)
    (group : a.group ≤ 15) (least : 500 ≤ a.density) (most : a.density ≤ 2000)
    (plain : a.hazard = 0 → a.un = 0 ∧ a.subsidiary = 0 ∧ pg = .none)
    (dangerous : a.hazard ≠ 0 → 1 ≤ a.un ∧ a.subsidiary ≠ a.hazard) :
    writtenProduct? a = some { defined := true, un := a.un, hazard := a.hazard, subsidiary := a.subsidiary, packing := pg,
                               group := a.group, density := a.density } := by
  have profile : if a.hazard = 0 then a.un = 0 ∧ a.subsidiary = 0 ∧ pg = .none
      else 1 ≤ a.un ∧ a.subsidiary ≠ a.hazard := by
    split
    · exact plain ‹_›
    · exact dangerous ‹_›
  simp only [writtenProduct?, isDefined, yesNo, productProfile?, packing]
  exact if_pos ⟨un, hazard, subsidiary, group, least, most, profile⟩

theorem writtenProduct?_of_undefined {a : ProductArgs} (undefined : a.defined = 0) : writtenProduct? a = some .blank := by
  simp [writtenProduct?, undefined, yesNo]

section WritableProduct

variable {s : State} (idle : s.port.executing = false) (notSaving : s.store.save = .idle)
  {k : Nat} (low : 1 ≤ k) (high : k ≤ 64) {a : ProductArgs} {p : Product} (written : writtenProduct? a = some p)
include idle notSaving low high written

/-- Past its operands and the save, SET_PRODUCT is decided by the reference count alone (R53). -/
theorem exec_setProduct_unused (unused : s.refCount k = 0) :
    exec (.setProduct k a) s = .next ((s.setProductEntry p k).taken 0x20 .ok []) := by
  have owner : ownSetProduct k a s = okay (s.setProductEntry p k) := by
    simp [ownSetProduct, validCode, inRange, low, high, written, (State.saving_eq_false_iff s).2 notSaving, unused]
  exact congrArg Host.Outcome.next (s.hostFrame_taken _ 0x20 _ .ok [] idle owner)

theorem exec_setProduct_inUse (used : s.refCount k ≠ 0) :
    exec (.setProduct k a) s = .next (s.taken 0x20 .inUse []) := by
  have owner : ownSetProduct k a s = refused .inUse s := by
    simp [ownSetProduct, validCode, inRange, low, high, written, (State.saving_eq_false_iff s).2 notSaving,
      Nat.pos_of_ne_zero used]
  exact State.hostFrame_refused idle 0x20 owner

end WritableProduct

/-! ## SET_SEGREGATION -/

/-- A relation of two groups is the matrix entry at their places (R57). -/
theorem Settings.relation_fin (c : Settings) (i j : Fin 16) : c.relation i j = c.matrix[i][j] := by
  simp [Settings.relation]

/-- The relations after a row and its mirrored column are written (R58). -/
theorem Settings.relation_mirrored (c : Settings) (g : Nat) (row : List Relation) {i j : Nat} (hi : i ≤ 15) (hj : j ≤ 15) :
    ({ c with matrix := mirrored c.matrix g row } : Settings).relation i j =
      if i = g then row.getD j .mix else if j = g then row.getD i .mix else c.relation i j := by
  have before := c.relation_fin ⟨i, Nat.lt_succ_of_le hi⟩ ⟨j, Nat.lt_succ_of_le hj⟩
  have after := Settings.relation_fin { c with matrix := mirrored c.matrix g row }
    ⟨i, Nat.lt_succ_of_le hi⟩ ⟨j, Nat.lt_succ_of_le hj⟩
  rw [mirrored_at] at after
  rw [after, before]

/-- The state after SET_SEGREGATION writes a row and its mirrored column (R58). -/
def State.writeRow (s : State) (g : Nat) (row : List Relation) : State :=
  s.withStore { s.store with settings := { s.store.settings with matrix := mirrored s.store.settings.matrix g row } }

/-- With sixteen relations the frame has the length SET_SEGREGATION must have (R164). -/
theorem exec_setSegregation_of_length (s : State) (g : Nat) {row : List Nat} (sixteen : row.length = 16) :
    exec (.setSegregation g row) s = .next (s.hostFrame 0x22 (ownSetSegregation g row)) := by
  have counted : s.countedFrame 0x22 (row.length == 16) (ownSetSegregation g row)
      = s.hostFrame 0x22 (ownSetSegregation g row) := by simp [State.countedFrame, State.hostFrame, sixteen]
  exact congrArg Host.Outcome.next counted

section WritableRow

variable {s : State} (idle : s.port.executing = false) (notSaving : s.store.save = .idle)
  {g : Nat} (valid : g ≤ 15) {row : List Nat} (sixteen : row.length = 16) {rs : List Relation}
  (codes : relationsOf? row = some rs) (mix : rs[g]? = some .mix)
include idle notSaving valid sixteen codes mix

/-- Past its operands and the save, SET_SEGREGATION is decided by whether a consignment exists (R58). -/
theorem exec_setSegregation_unused (noConsignment : s.consignments = []) :
    exec (.setSegregation g row) s = .next ((s.writeRow g rs).taken 0x22 .ok []) := by
  have owner : ownSetSegregation g row s = okay (s.writeRow g rs) := by
    simp [ownSetSegregation, codes, mix, Nat.not_lt.2 valid, (State.saving_eq_false_iff s).2 notSaving,
      noConsignment, State.writeRow]
  exact (exec_setSegregation_of_length s g sixteen).trans
    (congrArg Host.Outcome.next (s.hostFrame_taken _ 0x22 _ .ok [] idle owner))

theorem exec_setSegregation_inUse (used : s.consignments ≠ []) :
    exec (.setSegregation g row) s = .next (s.taken 0x22 .inUse []) := by
  have owner : ownSetSegregation g row s = refused .inUse s := by
    simp [ownSetSegregation, codes, mix, Nat.not_lt.2 valid, (State.saving_eq_false_iff s).2 notSaving, used]
  exact (exec_setSegregation_of_length s g sixteen).trans (State.hostFrame_refused idle 0x22 owner)

end WritableRow

/-- Settles O33: each command by whether the entry or the matrix is in use. -/
theorem productDataIsWrittenAndFrozen : Obligations.ProductDataIsWrittenAndFrozen := by
  intro s idle notSaving
  refine ⟨?_, ?_, ?_⟩
  · intro k a pg low high isDefined packing un hazard subsidiary group least most plain dangerous
    have written := writtenProduct?_of_defined isDefined packing un hazard subsidiary group least most plain dangerous
    refine ⟨fun unused => ⟨_, exec_setProduct_unused idle notSaving low high written unused, ?_, ?_, ?_, ?_, ?_⟩,
      exec_setProduct_inUse idle notSaving low high written⟩
    · simp [State.setProductEntry_product, low, high]
    · intro j other; simp [State.setProductEntry_product, low, high, other]
    · exact State.keepsAllBut_taken (s.setProductEntry_keepsAllBut _ k) _ _ _
    · simp
    · simp
  · intro k a low high undefined unused
    refine ⟨_, exec_setProduct_unused idle notSaving low high (writtenProduct?_of_undefined undefined) unused, ?_, ?_, ?_⟩
    · simp [State.setProductEntry_product, low, high]
    · intro j other; simp [State.setProductEntry_product, low, high, other]
    · exact State.keepsAllBut_taken (s.setProductEntry_keepsAllBut _ k) _ _ _
  · intro g row rs valid sixteen codes mix
    refine ⟨fun noConsignment => ⟨_, exec_setSegregation_unused idle notSaving valid sixteen codes mix noConsignment, ?_, ?_, ?_⟩,
      exec_setSegregation_inUse idle notSaving valid sixteen codes mix⟩
    · exact fun i j hi hj => s.store.settings.relation_mirrored g rs hi hj
    · exact State.keepsAllBut_taken (s.withStore_keepsAllBut _) _ _ _
    · simp

/-! ## The plan-time test -/

/-- A test over every later element of each element holds exactly when every pair in order passes. -/
theorem pairwiseAll_iff {α : Type} (ok : α → α → Bool) (xs : List α) :
    pairwiseAll ok xs = true ↔ xs.Pairwise (fun a b => ok a b = true) := by
  induction xs with
  | nil => simp [pairwiseAll]
  | cons x xs ih => simp [pairwiseAll, ih]

theorem adjacent_iff (c d : Nat) : adjacent c d = true ↔ c = d + 1 ∨ d = c + 1 := by simp [adjacent]

/-- Two lines may travel together exactly when they are not EXCLUDE, and not APART on adjacent compartments (R61). -/
theorem State.mayTravel_iff (s : State) (a b : Line) : s.mayTravel a b = true ↔
    s.relationOf a.product b.product ≠ .exclude
      ∧ ((a.compartment = b.compartment + 1 ∨ b.compartment = a.compartment + 1) →
          s.relationOf a.product b.product ≠ .apart) := by
  rw [← adjacent_iff, State.mayTravel]
  cases s.relationOf a.product b.product with
  | mix => simp
  | apart => simp
  | exclude => simp

/-- Settles O44: the test is the pairwise relation of the lines not CANCELLED. -/
theorem planTimeTestJudgesEveryPair : Obligations.PlanTimeTestJudgesEveryPair := by
  intro s lines
  rw [State.planTimeTest, pairwiseAll_iff]
  simp only [State.mayTravel_iff]

end Sys2Proof.Machine
end
